-- ==== Sys2Proof/Word.lean ====
section
/-! DEFINITION. Word.lean: the widths the manual gives, under the manual's names. -/

namespace Sys2Proof

/-- One byte of a frame (R1, R144). -/
abbrev Byte := BitVec 8

/-- A frame, or the part of one received so far, in the order its bytes are sent (R1). -/
abbrev FrameBytes := List Byte

/-- A cycle number: a 32-bit count that wraps modulo 2^32 (chapter 0, R55). -/
abbrev Cycle := BitVec 32

/-- A counter of a counter group: 32 bits, wrapping to 0 (R165). -/
abbrev Count := BitVec 32

/-- The 10-bit TAG field of a frame (R1). -/
abbrev Tag := BitVec 10

/-- A 7-bit node address, as the straps give it and as DEST carries it (R1, R172). -/
abbrev NodeAddr := BitVec 7

/-- The number of one of the 64 pool buffers (R19). -/
abbrev BufId := Fin 64

/-- The index of one of the 32 stream entries (R35). -/
abbrev StreamId := Fin 32

end Sys2Proof
end

