-- ==== Sys2Proof/Syntax.lean ====
section
/-! DEFINITION. Syntax.lean: the part's steps, one constructor per row of spec/opcode_table.json, in its order.

A row names a step of the part, whole and indivisible. Some steps are brought by the outside (a byte arrives, the
line interface reports, the supplies drop); some are brought by the reference clock (a tick, a wrap, an offset
reached, a transmission's end); some are the management unit's own (it takes the oldest request). The queue of
commands (Machine/State.lean, `pending`) says which step is taken next, so that it settles every "either may be
taken first" of the manual. -/

namespace Sys2Proof

/-- The two link ports: U toward the controller, D toward the drives (chapter 0). -/
inductive Port where
  | u
  | d
deriving DecidableEq, Repr

/-- The state of a line as the line interface reports it (R15). -/
inductive Link where
  | down
  | up
deriving DecidableEq, Repr

/-- What begins power-on, and what ends a condition that keeps it in progress (R172). That the POWER_ON row carries
the ends too is a DESIGN CHOICE (log entry 8): they are pin events of R172, and the table has no row of their own. -/
inductive PowerCause where
  /-- VDDIO or VDDC falls below its operating range. -/
  | supplyDrop
  /-- REFCLK stops. -/
  | refclkStop
  /-- RESET# was sampled low at this many consecutive ticks; it is taken as low from two on. -/
  | resetLow (samples : Nat)
  /-- Both supplies are within range again. -/
  | suppliesGood
  /-- REFCLK runs again. -/
  | refclkRuns
  /-- RESET# goes high again; its high samples are counted at the ticks that follow. -/
  | resetHigh
deriving DecidableEq, Repr

/-- One block's action at the wrap (R56), or an event that falls together with the wrap and may be taken amid the
blocks' actions. The manual lets actions of different blocks that fall together be taken in either order (R45, R94,
R96, R119, R150, R156); the WRAP command names the order. -/
inductive WrapAct where
  /-- The sync unit takes its new state, reports it, and presents sync-closed (R62 to R74). -/
  | sync
  /-- Plan control takes a pending switch, counts the hold and the resume guard (R116, R117, R124, R125). -/
  | plan
  /-- The release engine closes a window that stands (R94). -/
  | close
  /-- The stream unit ages the hold queue of one entry and removes stale frames (R44). -/
  | age (i : StreamId)
  /-- The note unit counts the wait of a record awaiting acknowledgement (R160). -/
  | notes
  /-- The U transmitter arbiter decides here, if what came before it in this wrap invokes it (R32, R156). -/
  | grantU
  /-- The ageing of one entry as in `age`, but between the first `k` of its STALE occurrences and the rest the note
  unit acts as in `notes` where `acts` says so, and then the U transmitter arbiter decides as in `grantU` where `grants`
  says so (R156). -/
  | ageAmid (i : StreamId) (k : Nat) (acts grants : Bool)
  /-- The management unit's requests fall together with the wrap and are taken after it (R119); where this is not
  named, those that wait are taken before it. It has no place of its own among the blocks. -/
  | unit
deriving DecidableEq, Repr

/-- The blocks' actions of R56 that an element of a wrap's order makes. -/
def WrapAct.blocks : WrapAct → List WrapAct
  | .sync => [.sync]
  | .plan => [.plan]
  | .close => [.close]
  | .age i => [.age i]
  | .notes => [.notes]
  | .grantU => []
  | .ageAmid i _ acts _ => if acts then [.age i, .notes] else [.age i]
  | .unit => []

/-- The steps of the JK-3264. The requests carry no operand: a request's arguments are in the frame at the head of
the management input queue, which is state (R129). -/
inductive Instr where
  /-- POWER_ON (R172): a supply, REFCLK or RESET# changes. -/
  | powerOn (cause : PowerCause)
  /-- POWER_ON_COMPLETE (R172): the ticks counted from outside since the later of R172's two events, which the part's own
  count must bear out; the strap levels ADDR6 to ADDR0; the first report of each line interface, and whether port D's
  report is taken before port U's (R15). -/
  | powerOnComplete (goodTicks : Nat) (straps : NodeAddr) (linkU linkD : Link) (dFirst : Bool)
  /-- LINK_CHANGE (R15): the line interface of a port reports its state. -/
  | linkChange (p : Port) (l : Link)
  /-- HEADER_TIME (R3): the fourth byte of a frame arrives and is not its last. -/
  | headerTime (p : Port) (b : Byte)
  /-- FRAME_END (R5): the byte marked last arrives. -/
  | frameEnd (p : Port) (b : Byte)
  /-- WRAP (R56). -/
  | wrap (order : List WrapAct)
  /-- MISS_LIMIT_REACHED (R70): the wrap at which the miss count reaches MISS_LIMIT. -/
  | missLimitReached (order : List WrapAct)
  /-- HOLDOVER_LIMIT_REACHED (R71): the wrap at which the holdover count reaches HOLDOVER_LIMIT. -/
  | holdoverLimitReached (order : List WrapAct)
  /-- STALE_REMOVAL (R44): a wrap at which held frames pass their AGE_LIMIT. -/
  | staleRemoval (order : List WrapAct)
  /-- HOLD_EXPIRY (R124): the wrap at which the hold count reaches its limit. -/
  | holdExpiry (order : List WrapAct)
  /-- NOTE_TIMEOUT (R160): the wrap at which WAIT of the head note reaches RETRY. -/
  | noteTimeout (order : List WrapAct)
  /-- CYC_FALL (R58): the offset reaches 32. -/
  | cycFall
  /-- SLOT_TAKE (R84): the offset reaches the OPEN of the slot at the next-slot position. -/
  | slotTake
  /-- WINDOW_CLOSE (R93): the offset reaches CLOSE of the standing window. -/
  | windowClose
  /-- TRANSMISSION_COMPLETE (R14): a frame's occupancy of a port's transmitter ends. -/
  | transmissionComplete (p : Port)
  /-- REQUEST_REPLAY (R135). -/
  | requestReplay
  /-- BROADCAST_IGNORE (R137). -/
  | broadcastIgnore
  /-- UNKNOWN_REQUEST (R130). -/
  | unknownRequest
  /-- IDENT (R138). -/
  | ident
  /-- STREAM_WRITE (R46). -/
  | streamWrite
  /-- STREAM_DELETE (R47). -/
  | streamDelete
  /-- STREAM_LOCK (R48). -/
  | streamLock
  /-- STREAM_READ (R50). -/
  | streamRead
  /-- STREAM_PURGE (R52). -/
  | streamPurge
  /-- SLOT_ADD (R106). -/
  | slotAdd
  /-- SLOT_DROP (R107). -/
  | slotDrop
  /-- SLOT_READ (R111). -/
  | slotRead
  /-- STAGE_EMPTY (R108). -/
  | stageEmpty
  /-- STAGE_FROM_ACTIVE (R109). -/
  | stageFromActive
  /-- CYCLE_STAGE (R110). -/
  | cycleStage
  /-- SWITCH (R113). -/
  | switch
  /-- WITHDRAW (R120). -/
  | withdraw
  /-- HOLD (R121). -/
  | hold
  /-- RESUME (R122). -/
  | resume
  /-- SYNC_CONFIG (R76). -/
  | syncConfig
  /-- SYNC_READ (R78). -/
  | syncRead
  /-- TRACE_READ (R75). -/
  | traceRead
  /-- COUNT_READ (R167). -/
  | countRead
  /-- NOTE_ACK (R161). -/
  | noteAck
  /-- NOTE_CONFIG (R152). -/
  | noteConfig
  /-- PASS_CONFIG (R139). -/
  | passConfig
  /-- RESTART (R140). -/
  | restart
  /-- FIRST_BYTE_OF_FRAME (R3): a byte arrives that is neither the fourth nor the last of its frame. -/
  | firstByteOfFrame (p : Port) (b : Byte)
  /-- TICK (R55): a tick of the reference clock that is not a wrap. -/
  | tick
deriving DecidableEq, Repr

end Sys2Proof
end

