-- ==== Sys2Proof/Decode.lean ====
section
/-! DEFINITION. Decode.lean: the command a table word spells. No row of spec/opcode_table.json gives bits (the steps
of this part are events and requests, not instruction words), so no word spells a command. The byte layouts of the
link's own frames and requests (R144 to R147) are in Machine/Bytes.lean and Machine/Operands.lean. -/

namespace Sys2Proof

/-- The command spelled by a word of the table: none, since the table gives no row any bits. -/
def decodeTableWord (_nbits _w : Nat) : Option Instr := none

end Sys2Proof
end

