-- ==== Sys2Proof/Config.lean ====
section
/-! DEFINITION. Config.lean: the constants the data sheet fixes for the part.
The manual calls no value undefined or the implementation's (log entry 12), so this file holds no free value: the orders it leaves open
are operands of the commands (Syntax.lean, `WrapAct`) or the order of the command queue. -/

namespace Sys2Proof.Config

/-- RETURN_RESERVE: the FREE buffers kept for port D (R21). -/
abbrev returnReserve : Nat := 4

/-- The pass-through queue never holds more frames than this (R25). -/
abbrev passCapacity : Nat := 12

/-- The return queue never holds more frames than this (R27). -/
abbrev returnCapacity : Nat := 16

/-- The management input queue holds up to this many requests (R127). -/
abbrev inputCapacity : Nat := 4

/-- The reply outbox holds up to this many frames (R132). -/
abbrev outboxCapacity : Nat := 2

/-- The note queue holds at most this many records (R148). -/
abbrev noteCapacity : Nat := 16

/-- A plan holds at most this many slots (R104). -/
abbrev planCapacity : Nat := 64

/-- L after power-on and after restart, in ticks (R59, R126). -/
abbrev defaultL : Nat := 50000

/-- CYC is high for this many ticks of each cycle (R58). -/
abbrev cycHigh : Nat := 32

/-- Ticks from good supplies, REFCLK and RESET# to the completion of power-on (R172). -/
abbrev powerOnTicks : Nat := 4096

/-- GUARD_MARGIN after power-on and after restart (R103, R143). -/
abbrev defaultGuardMargin : Nat := 16

/-- RETRY after power-on and after restart (R152, R163). -/
abbrev defaultRetry : Nat := 4

/-- The resume-guard count stops here (R125). -/
abbrev resumeGuardFull : Nat := 2

/-- The vendor code of the IDENT reply (R138). -/
abbrev vendorCode : BitVec 16 := 0x5B1D

/-- The part code of the IDENT reply (R138). -/
abbrev partCode : BitVec 16 := 0x3264

/-- The revision of the IDENT reply (R138). -/
abbrev revision : BitVec 8 := 2

end Sys2Proof.Config
end

