-- ==== Sys2Proof/Machine/State.lean ====
section
/-! DEFINITION. State.lean: everything the data sheet gives the part to hold, block by block (chapter 0, "Blocks and
what they hold"), as plain data, and the state right after power-on. -/

namespace Sys2Proof.Machine

/-! ### Frames, receivers, transmitters (chapter 1) -/

/-- The receiver states of R3. -/
inductive RxState where
  | idle
  | header
  | body
  | skip
deriving DecidableEq, Repr

/-- The route the classifier chose at header time (R7, R8). -/
inductive Route where
  /-- DATA on port U matched to the stream entry at this index; rechecked at the end (R9, R10). -/
  | hold (i : StreamId)
  /-- To the pass-through queue. -/
  | pass
  /-- DATA on port U unmatched under DROP. -/
  | drop
  /-- MARK on port U: capture and mark store (R11). -/
  | mark
  /-- MGMT to the part's own address: management input queue (R12). -/
  | mgmt
  /-- MGMT to DEST 127: management input queue, and a forwarding copy if a buffer was granted (R12). -/
  | broadcast
  /-- To the return queue (R8). -/
  | back
  /-- A kind its port does not accept (R13). -/
  | misdirected
deriving DecidableEq, Repr

/-- A port's receiver (R3): its state, byte count, running CHECK computation, route, and the pool buffer it fills.
`header` keeps the header bytes, which the end checks and the recheck read; `check` collects the CHECK received. -/
structure Receiver where
  state : RxState := .idle
  count : Nat := 0
  header : FrameBytes := []
  crc : BitVec 16 := 0xFFFF
  check : BitVec 16 := 0
  route : Option Route := none
  buffer : Option BufId := none
deriving DecidableEq, Repr

/-- The PORT_U or PORT_D counter group, in reply order (R147, R164). -/
structure PortCounters where
  rxGood : Count := 0
  rxCheck : Count := 0
  rxMalformed : Count := 0
  rxMisdirected : Count := 0
  rxNobuf : Count := 0
  txFrames : Count := 0
  linkChanges : Count := 0
deriving DecidableEq, Repr

/-- What each port holds beside its transmitter: link state (R15), receiver (R3), counters (R164). -/
structure PortState where
  link : Link := .down
  rx : Receiver := {}
  counters : PortCounters := {}
deriving DecidableEq, Repr

/-- The source of a transmission on port D (R99). A release is attached to its stream entry, or detached (R43). -/
inductive SourceD where
  | mark
  | release (buffer : BufId) (attached : Option StreamId)
  | pass (buffer : BufId)
deriving DecidableEq, Repr

/-- The source of a transmission on port U (R31, R33). -/
inductive SourceU where
  | back (buffer : BufId)
  | reply
  | note
deriving DecidableEq, Repr

/-- A transmission in progress (R14): its source, the bytes sent, and the ticks of its occupancy still to pass. -/
structure Transmission (σ : Type) where
  source : σ
  bytes : FrameBytes
  remaining : Nat
deriving DecidableEq, Repr

/-! ### Buffer pool and forwarding stores (chapter 2) -/

/-- The buffer states of R19. -/
inductive BufState where
  | free
  | filling
  | queued
  | sending
deriving DecidableEq, Repr

/-- One pool buffer: its state and the frame it holds (R19). -/
structure Buffer where
  state : BufState := .free
  bytes : FrameBytes := []
deriving DecidableEq, Repr

/-- LAST_SOURCE of the U transmitter arbiter (R31). -/
inductive ClassU where
  | back
  | part
deriving DecidableEq, Repr

/-- The FORWARD counter group, in reply order (R147, R164). -/
structure ForwardCounters where
  passForwarded : Count := 0
  passDropped : Count := 0
  unmatchedDropped : Count := 0
  returnForwarded : Count := 0
  returnDropped : Count := 0
  marksForwarded : Count := 0
  marksReplaced : Count := 0
deriving DecidableEq, Repr

/-- The pass-through queue, the return queue and the mark store, with LAST_SOURCE (R25, R27, R29, R31). -/
structure Stores where
  pass : List BufId := []
  back : List BufId := []
  mark : Option FrameBytes := none
  lastSource : ClassU := .part
  counters : ForwardCounters := {}
deriving DecidableEq, Repr

/-! ### Stream unit (chapter 3) -/

/-- POLICY of a stream entry (R36). -/
inductive Policy where
  | keep
  | replace
deriving DecidableEq, Repr

/-- A held-frame record (R37). -/
structure Held where
  buffer : BufId
  len : Nat
  arrivalCycle : Cycle
  arrivalOffset : Nat
  age : Nat
deriving DecidableEq, Repr

/-- The STREAM counter group of one entry, in reply order (R53). -/
structure StreamCounters where
  arrived : Count := 0
  released : Count := 0
  superseded : Count := 0
  refused : Count := 0
  stale : Count := 0
  missed : Count := 0
  purged : Count := 0
deriving DecidableEq, Repr

/-- A stream entry (R36), its hold queue, oldest first (R37), and its counters (R53); the defaults are R54's. -/
structure Stream where
  valid : Bool := false
  tag : Tag := 0
  depth : Nat := 1
  policy : Policy := .keep
  ageLimit : Nat := 0
  locked : Bool := false
  queue : List Held := []
  counters : StreamCounters := {}
deriving DecidableEq, Repr

/-! ### Cycle timer and sync unit (chapter 4) -/

/-- The cycle timer (R55). The adjustment A is CL minus the active L (Machine/Flags.lean, `adjustment`). `wrapping` says
that the tick that is the wrap has come and the wrap has not been taken yet: what is taken then falls together with the
wrap and comes before it, with the ending cycle's last offset (R62). It is implied state, DEDUCED (log entry 14). -/
structure Timer where
  cycle : Cycle := 0
  offset : Nat := 0
  cl : Nat := Config.defaultL
  wrapping : Bool := false
deriving DecidableEq, Repr

/-- The sync states of R65. -/
inductive SyncMode where
  | free
  | acquire
  | locked
  | holdover
deriving DecidableEq, Repr

/-- LOST_POLICY (R64). -/
inductive LostPolicy where
  | continue
  | close
deriving DecidableEq, Repr

/-- The seven sync settings with their defaults (R64). -/
structure SyncSettings where
  enable : Bool := false
  markOffset : Nat := 0
  lockWindow : Nat := 50
  slewLimit : Nat := 20
  missLimit : Nat := 3
  holdoverLimit : Nat := 64
  lostPolicy : LostPolicy := .continue
deriving DecidableEq, Repr

/-- The four small counts of R65. -/
structure SyncCounts where
  good : Nat := 0
  miss : Nat := 0
  excursion : Nat := 0
  holdover : Nat := 0
deriving DecidableEq, Repr

/-- A capture (R60). -/
structure Capture where
  offset : Nat
  localCycle : Cycle
  markNumber : Cycle
  double : Bool
deriving DecidableEq, Repr

/-- A trace record (R74). -/
structure TraceRecord where
  seq : BitVec 16
  cycle : Cycle
  present : Bool
  double : Bool
  step : Bool
  adjusted : Bool
  stateAfter : SyncMode
  captureOffset : Nat
  markNumber : Cycle
  deviation : Int
  nextLength : Nat
deriving DecidableEq, Repr

/-- The SYNC counter group, in reply order (R147, R164). -/
structure SyncCounters where
  marksCaptured : Count := 0
  doubleMarks : Count := 0
  steps : Count := 0
  lockLosses : Count := 0
  misses : Count := 0
deriving DecidableEq, Repr

/-- The sync unit (R60 to R79): state, counts, settings, capture record, trace ring with its write position and
next SEQ, counters. -/
structure Sync where
  mode : SyncMode := .free
  counts : SyncCounts := {}
  settings : SyncSettings := {}
  capture : Option Capture := none
  ring : Vector (Option TraceRecord) 32 := Vector.replicate 32 none
  writePos : Fin 32 := 0
  nextSeq : BitVec 16 := 0
  counters : SyncCounters := {}
deriving DecidableEq, Repr

/-! ### Release engine (chapter 5) -/

/-- The states of a standing window (R83). -/
inductive WindowPhase where
  | opened
  | done
deriving DecidableEq, Repr

/-- The window record while a window stands (R83). `onLine` says that a release granted in this window is still in
transmission, which R88 asks for. -/
structure Window where
  position : Nat
  openAt : Nat
  closeAt : Nat
  stream : StreamId
  quota : Nat
  once : Bool
  released : Nat
  phase : WindowPhase
  onLine : Bool
deriving DecidableEq, Repr

/-- The release engine (R83, R84, R88): the window record (none is GAP), the next-slot position, whether a release
request stands, and the resume offset of the current cycle (R97). -/
structure Engine where
  window : Option Window := none
  nextSlot : Nat := 0
  request : Bool := false
  resumeOffset : Option Nat := none
deriving DecidableEq, Repr

/-! ### Plan control (chapter 6) -/

/-- A slot (R80, R104). -/
structure Slot where
  openAt : Nat
  span : Nat
  stream : StreamId
  quota : Nat
  every : Nat
  phase : Nat
  once : Bool
deriving DecidableEq, Repr

/-- A slot of the active plan, with its SPENT mark (R80). -/
structure ActiveSlot where
  slot : Slot
  spent : Bool := false
deriving DecidableEq, Repr

/-- The plan states of R112. -/
inductive PlanMode where
  | steady
  | pending
  | held
  | heldPending
deriving DecidableEq, Repr

/-- The switch target (R112). -/
inductive Target where
  | none
  | next
  | atCycle (n : Cycle)
deriving DecidableEq, Repr

/-- The PLAN counter group, in reply order (R147, R164). -/
structure PlanCounters where
  switchesDone : Count := 0
  switchesWithdrawn : Count := 0
  holds : Count := 0
  holdExpiries : Count := 0
  windowsOpened : Count := 0
  windowsSkipped : Count := 0
deriving DecidableEq, Repr

/-- Plan control (R104, R112), with the values of R126. -/
structure Plan where
  staged : List Slot := []
  active : List ActiveSlot := []
  stagedL : Nat := Config.defaultL
  activeL : Nat := Config.defaultL
  mode : PlanMode := .steady
  target : Target := .none
  holdLimit : Nat := 0
  holdCount : Nat := 0
  resumeGuard : Nat := Config.resumeGuardFull
  counters : PlanCounters := {}
deriving DecidableEq, Repr

/-! ### Management unit (chapter 7) -/

/-- The unit states of R128. -/
inductive UnitMode where
  | ready
  | stalled
  | restarting
deriving DecidableEq, Repr

/-- The unmatched policy (R9, R139). -/
inductive Unmatched where
  | forward
  | drop
deriving DecidableEq, Repr

/-- A reply frame, and whether it is that of a RESTART (R33, R140). -/
structure Reply where
  bytes : FrameBytes
  ofRestart : Bool
deriving DecidableEq, Repr

/-- The entry of the reply cache (R134). -/
structure CacheEntry where
  tag : Tag
  payload : List Byte
  replies : List FrameBytes
deriving DecidableEq, Repr

/-- The MGMT counter group, in reply order (R147, R164). -/
structure MgmtCounters where
  requestsExecuted : Count := 0
  replays : Count := 0
  inputOverruns : Count := 0
  broadcastIgnored : Count := 0
deriving DecidableEq, Repr

/-- The management unit (R127 to R143): unit state, input queue, reply outbox, part store, reply cache, the two
settings of PASS_CONFIG, counters. -/
structure Mgmt where
  mode : UnitMode := .ready
  input : List FrameBytes := []
  outbox : List Reply := []
  parts : List Reply := []
  cache : Option CacheEntry := none
  unmatched : Unmatched := .forward
  guardMargin : Nat := Config.defaultGuardMargin
  counters : MgmtCounters := {}
deriving DecidableEq, Repr

/-! ### Note unit (chapter 8) -/

/-- The cause of a STARTED record (R150). -/
inductive StartCause where
  | powerOn
  | restart
deriving DecidableEq, Repr

/-- An occurrence with its stream and data (R150); LOST and STARTED are the note unit's own records. -/
inductive Occurrence where
  | superseded (i : StreamId)
  | refused (i : StreamId)
  | stale (i : StreamId)
  | missedWindow (i : StreamId) (openAt : Nat)
  | poolExhausted
  | syncState (old new : SyncMode)
  | switchDone (c : Cycle)
  | holdExpired
  | linkChange (p : Port) (l : Link)
  | doubleMark
  | broadcastRefused (op status : Byte)
  | inputOverrun
  | lost (n : Nat)
  | started (cause : StartCause)
deriving DecidableEq, Repr

/-- The states of a note record (R149). -/
inductive NoteState where
  | waiting
  | sending
  | awaitingAck
deriving DecidableEq, Repr

/-- A note record (R148). `occ` gives its KIND, its STREAM and, from the latest occurrence, its DATA. -/
structure NoteRecord where
  occ : Occurrence
  count : Nat
  first : Cycle
  last : Cycle
  seq : Option (BitVec 8)
  attempts : Nat
  state : NoteState
  wait : Nat
deriving DecidableEq, Repr

/-- The NOTES counter group, in reply order (R147, R164). -/
structure NoteCounters where
  notesSent : Count := 0
  notesResent : Count := 0
  notesAbandoned : Count := 0
  notesLost : Count := 0
deriving DecidableEq, Repr

/-- The note unit (R148 to R163): note queue, lost tally, next NOTE_SEQ, enable mask (the bit numbered k - 1 stands
for kind k), RETRY, counters. -/
structure Notes where
  queue : List NoteRecord := []
  tally : Nat := 0
  nextSeq : BitVec 8 := 0
  mask : BitVec 12 := 0xFFF
  retry : Nat := Config.defaultRetry
  counters : NoteCounters := {}
deriving DecidableEq, Repr

/-! ### The part -/

/-- Whether power-on is in progress (R172). -/
inductive Power where
  | running
  | poweringOn
deriving DecidableEq, Repr

/-- The conditions of power-on (R172): both supplies within range, REFCLK running, the level of RESET#, its consecutive
high samples (2 is enough), and the ticks since the later of R172's two events. The defaults are those of a part that
runs; they change only while power-on is in progress. -/
structure Conditions where
  supplies : Bool := true
  refclk : Bool := true
  resetHigh : Bool := true
  highSamples : Nat := 2
  elapsed : Nat := 0
deriving DecidableEq, Repr

/-- The state of the part. `nodeAddr` is the value read from the straps; 0 and 127 leave the part unaddressed
(R142). `cyc` and `win` are the two observation outputs (R58, R98). `pending` is the queue of commands waiting to be
taken, which is the model's own. -/
structure State where
  power : Power := .running
  conditions : Conditions := {}
  nodeAddr : NodeAddr := 0
  cyc : Bool := false
  win : Bool := false
  portU : PortState := {}
  portD : PortState := {}
  txU : Option (Transmission SourceU) := none
  txD : Option (Transmission SourceD) := none
  markArea : FrameBytes := []
  mgmtArea : FrameBytes := []
  pool : Vector Buffer 64 := Vector.replicate 64 {}
  stores : Stores := {}
  streams : Vector Stream 32 := Vector.replicate 32 {}
  timer : Timer := {}
  sync : Sync := {}
  engine : Engine := {}
  plan : Plan := {}
  mgmt : Mgmt := {}
  notes : Notes := {}
  pending : List Instr := []
deriving DecidableEq, Repr

/-- No step of this part stops with a fault: the manual gives every event an outcome. -/
inductive Fault where
deriving DecidableEq, Repr

/-- Why a command has no meaning. -/
inductive Refusal where
  /-- Raised by `exec` for a row that has no meaning yet; safe, since the machine stops. No row raises it now. -/
  | notModelled (mnemonic : String)
deriving DecidableEq, Repr

/-- The part right after power-on completes: the power-on values of R18, R34, R54, R59, R79, R103, R126, R143, R163
and R171, cycle 0 begun (CYC high, R58), the STARTED record with cause POWER_ON appended (R163), the link states DOWN
before the first report (R15). DESIGN CHOICE (log entry 1): the straps read 5, the address of section 10.1. -/
def State.reset : State :=
  { nodeAddr := 5
    cyc := true
    notes :=
      { queue :=
          [{ occ := .started .powerOn, count := 1, first := 0, last := 0, seq := none, attempts := 0,
             state := .waiting, wait := 0 }] } }

end Sys2Proof.Machine
end

