-- ==== Sys2Proof/Machine/Bytes.lean ====
section
/-! DEFINITION. Bytes.lean: the byte order of the link, the frame check and the frame layout (R1, R144). -/

namespace Sys2Proof.Machine

/-- The `n` bytes of a number, most significant byte first (chapter 0, "Byte order"; R144). -/
def bytesBE : Nat → Nat → List Byte
  | 0, _ => []
  | n + 1, v => bytesBE n (v / 256) ++ [BitVec.ofNat 8 v]

/-- The number that bytes sent most significant first stand for (R144). -/
def natBE (bs : List Byte) : Nat := bs.foldl (fun acc b => acc * 256 + b.toNat) 0

/-- A flag's code: 0 no, 1 yes (R145). -/
def flagByte (b : Bool) : Byte := if b then 1 else 0

/-- One bit of the CHECK computation: polynomial x^16 + x^12 + x^5 + 1 (R1). -/
def crcBit (c : BitVec 16) : BitVec 16 := if c.msb then (c <<< 1) ^^^ 0x1021 else c <<< 1

/-- One byte enters the CHECK computation, most significant bit first (R1). -/
def crcByte (c : BitVec 16) (b : Byte) : BitVec 16 :=
  crcBit (crcBit (crcBit (crcBit (crcBit (crcBit (crcBit (crcBit (c ^^^ (b.zeroExtend 16 <<< 8)))))))))

/-- The CHECK register before the first byte: all ones (R1). -/
def crcInit : BitVec 16 := 0xFFFF

/-- CHECK of a header and payload, in the order they are sent (R1). -/
def crc16 (bs : List Byte) : BitVec 16 := bs.foldl crcByte crcInit

/-- Byte `i` of a frame, 0 where the frame has no such byte. -/
def byteAt (f : FrameBytes) (i : Nat) : Byte := f.getD i 0

/-- DEST (R144). -/
def destOf (f : FrameBytes) : NodeAddr := (byteAt f 0).extractLsb' 0 7

/-- The code in the KIND field (R144). -/
def kindOf (f : FrameBytes) : BitVec 3 := (byteAt f 1).extractLsb' 5 3

/-- TAG (R144). -/
def tagOf (f : FrameBytes) : Tag := (byteAt f 1).extractLsb' 0 2 ++ byteAt f 2

/-- LEN (R144). -/
def lenOf (f : FrameBytes) : Nat := (byteAt f 3).toNat

/-- The reserved bits: the top bit of the DEST byte and the three bits between KIND and TAG (R1, R144). -/
def reservedClear (f : FrameBytes) : Bool :=
  (byteAt f 0).extractLsb' 7 1 == 0 && (byteAt f 1).extractLsb' 2 3 == 0

/-- The payload: LEN bytes after the header (R1, R144). -/
def payloadOf (f : FrameBytes) : List Byte := (f.drop 4).take (lenOf f)

/-- KIND codes (R1). -/
def kindData : BitVec 3 := 1
def kindMark : BitVec 3 := 2
def kindMgmt : BitVec 3 := 3
def kindMrep : BitVec 3 := 4
def kindNote : BitVec 3 := 5

/-- DEST 127 (chapter 0). -/
def broadcastAddr : NodeAddr := 127

/-- The header and payload of a frame, without CHECK (R144). -/
def frameBody (dest : NodeAddr) (kind : BitVec 3) (tag : Tag) (payload : List Byte) : List Byte :=
  [ (0 : BitVec 1) ++ dest,
    kind ++ ((0 : BitVec 3) ++ tag.extractLsb' 8 2),
    tag.extractLsb' 0 8,
    BitVec.ofNat 8 payload.length ] ++ payload

/-- A frame the part originates: header, payload and the CHECK computed over them (R1, R131, R158). -/
def mkFrame (dest : NodeAddr) (kind : BitVec 3) (tag : Tag) (payload : List Byte) : FrameBytes :=
  let body := frameBody dest kind tag payload
  body ++ bytesBE 2 (crc16 body).toNat

/-- The ticks a frame with LEN payload bytes occupies a transmitter (R14). -/
def occupancy (len : Nat) : Nat := (len + 8) * 4

/-- A header that R4 finds MALFORMED. -/
def headerMalformed (f : FrameBytes) : Bool :=
  !reservedClear f || decide (64 < lenOf f)
    || kindOf f == 0 || kindOf f == 6 || kindOf f == 7
    || (kindOf f == kindMark && (lenOf f != 4 || tagOf f != 0))

end Sys2Proof.Machine
end

