-- ==== Sys2Proof/Machine/Ops.lean ====
section
/-! DEFINITION. Ops.lean: the operations the blocks share: ports and counters, the buffer pool, stream entries, and
the recording of an occurrence in the note queue. -/

namespace Sys2Proof.Machine

/-! ### Ports and counters -/

/-- What port `p` holds. -/
def State.port (s : State) : Port → PortState
  | .u => s.portU
  | .d => s.portD

/-- The state with port `p` holding `x`. -/
def State.setPort (s : State) (p : Port) (x : PortState) : State :=
  match p with
  | .u => { s with portU := x }
  | .d => { s with portD := x }

/-- A change of port `p`'s counters (R164). -/
def countPort (p : Port) (f : PortCounters → PortCounters) (s : State) : State :=
  s.setPort p { s.port p with counters := f (s.port p).counters }

/-- A change of port `p`'s receiver (R3). -/
def setRx (p : Port) (rx : Receiver) (s : State) : State :=
  s.setPort p { s.port p with rx := rx }

/-- A change of the FORWARD counters (R164). -/
def countForward (f : ForwardCounters → ForwardCounters) (s : State) : State :=
  { s with stores := { s.stores with counters := f s.stores.counters } }

/-- A change of the SYNC counters (R164). -/
def countSync (f : SyncCounters → SyncCounters) (s : State) : State :=
  { s with sync := { s.sync with counters := f s.sync.counters } }

/-- A change of the PLAN counters (R164). -/
def countPlan (f : PlanCounters → PlanCounters) (s : State) : State :=
  { s with plan := { s.plan with counters := f s.plan.counters } }

/-- A change of the MGMT counters (R164). -/
def countMgmt (f : MgmtCounters → MgmtCounters) (s : State) : State :=
  { s with mgmt := { s.mgmt with counters := f s.mgmt.counters } }

/-- A change of the NOTES counters (R164). -/
def countNotes (f : NoteCounters → NoteCounters) (s : State) : State :=
  { s with notes := { s.notes with counters := f s.notes.counters } }

/-- The part has a node address: the straps read 1 to 126 (R142, R172). -/
def State.addressed (s : State) : Bool := s.nodeAddr != 0 && s.nodeAddr != broadcastAddr

/-! ### Buffer pool (chapter 2) -/

/-- The state with pool buffer `b` as given. -/
def setBuf (b : BufId) (x : Buffer) (s : State) : State := { s with pool := s.pool.set b x }

/-- The frame pool buffer `b` holds. -/
def bufBytes (s : State) (b : BufId) : FrameBytes := s.pool[b].bytes

/-- The buffer becomes FREE and holds no frame (R19, R23). -/
def freeBuf (b : BufId) (s : State) : State := setBuf b {} s

/-- The buffer keeps its frame and takes state `st` (R20). -/
def markBuf (b : BufId) (st : BufState) (s : State) : State := setBuf b { s.pool[b] with state := st } s

/-- One byte is written into the buffer (R3). -/
def writeBuf (b : BufId) (x : Byte) (s : State) : State :=
  setBuf b { s.pool[b] with bytes := s.pool[b].bytes ++ [x] } s

/-- The free count: the number of FREE buffers (R19). -/
def freeCount (s : State) : Nat := (s.pool.toList.filter fun b => b.state == .free).length

/-- The lowest-numbered FREE buffer (R21). -/
def lowestFree (s : State) : Option BufId := (List.finRange 64).find? fun b => s.pool[b].state == .free

/-- A buffer is granted to port D while the free count is 1 or more, to port U while it is more than
RETURN_RESERVE (R21). -/
def mayAllocate (p : Port) (s : State) : Bool :=
  match p with
  | .u => decide (Config.returnReserve < freeCount s)
  | .d => decide (1 ≤ freeCount s)

/-- Free a list of buffers (R23). -/
def freeBufs (bs : List BufId) (s : State) : State := bs.foldl (fun s b => freeBuf b s) s

/-! ### Stream entries (chapter 3) -/

/-- Stream entry `i`. -/
def State.stream (s : State) (i : StreamId) : Stream := s.streams[i]

/-- The state with stream entry `i` as given. -/
def setStream (i : StreamId) (x : Stream) (s : State) : State := { s with streams := s.streams.set i x }

/-- A change of entry `i`'s counters (R53). -/
def countStream (i : StreamId) (f : StreamCounters → StreamCounters) (s : State) : State :=
  setStream i { s.stream i with counters := f (s.stream i).counters } s

/-- The entry's hold queue, replaced (R37). -/
def setQueue (i : StreamId) (q : List Held) (s : State) : State :=
  setStream i { s.stream i with queue := q } s

/-! ### Occurrences and the note queue (chapter 8) -/

/-- The number of a note kind (R150). -/
def Occurrence.kind : Occurrence → Nat
  | .superseded _ => 1
  | .refused _ => 2
  | .stale _ => 3
  | .missedWindow _ _ => 4
  | .poolExhausted => 5
  | .syncState _ _ => 6
  | .switchDone _ => 7
  | .holdExpired => 8
  | .linkChange _ _ => 9
  | .doubleMark => 10
  | .broadcastRefused _ _ => 11
  | .inputOverrun => 12
  | .lost _ => 13
  | .started _ => 14

/-- The stream an occurrence carries (R150). -/
def Occurrence.stream : Occurrence → Option StreamId
  | .superseded i => some i
  | .refused i => some i
  | .stale i => some i
  | .missedWindow i _ => some i
  | .poolExhausted => none
  | .syncState _ _ => none
  | .switchDone _ => none
  | .holdExpired => none
  | .linkChange _ _ => none
  | .doubleMark => none
  | .broadcastRefused _ _ => none
  | .inputOverrun => none
  | .lost _ => none
  | .started _ => none

/-- The kinds that coalesce: 1 to 5, 8, 10 and 12 (R150). -/
def Occurrence.coalesces (o : Occurrence) : Bool :=
  decide (o.kind ≤ 5) || o.kind == 8 || o.kind == 10 || o.kind == 12

/-- The kind's flag in the enable mask; LOST and STARTED have none and are always enabled (R151, R152). -/
def Occurrence.enabled (mask : BitVec 12) (o : Occurrence) : Bool :=
  decide (12 < o.kind) || mask.getLsbD (o.kind - 1)

/-- A record that has never been sent, of the occurrence's KIND and STREAM (R153, case 1). -/
def takesOccurrence (o : Occurrence) (r : NoteRecord) : Bool :=
  r.attempts == 0 && r.occ.kind == o.kind && r.occ.stream == o.stream

/-- The occurrence folded into a record (R153, case 1). -/
def foldInto (o : Occurrence) (c : Cycle) (r : NoteRecord) : NoteRecord :=
  { r with occ := o, count := min 255 (r.count + 1), last := c }

/-- The queue with the occurrence folded into its record of that KIND and STREAM, if it has one (R153, case 1). -/
def coalesceInto (o : Occurrence) (c : Cycle) : List NoteRecord → Option (List NoteRecord)
  | [] => none
  | r :: rs =>
    if takesOccurrence o r then some (foldInto o c r :: rs) else (coalesceInto o c rs).map (r :: ·)

/-- The record appended for an occurrence (R153, case 2). -/
def freshRecord (o : Occurrence) (c : Cycle) : NoteRecord :=
  { occ := o, count := 1, first := c, last := c, seq := none, attempts := 0, state := .waiting, wait := 0 }

/-- Cases 2 and 3 of R153: append, or count the loss (R154). -/
def appendOrLose (o : Occurrence) (c : Cycle) (n : Notes) : Notes :=
  if n.queue.length < Config.noteCapacity then
    { n with queue := n.queue ++ [freshRecord o c] }
  else
    { n with tally := min 65535 (n.tally + 1)
             counters := { n.counters with notesLost := n.counters.notesLost + 1 } }

/-- The note unit records an enabled occurrence by the first case of R153 that applies. -/
def recordOccurrence (o : Occurrence) (c : Cycle) (n : Notes) : Notes :=
  match (if o.coalesces then coalesceInto o c n.queue else none) with
  | some q => { n with queue := q }
  | none => appendOrLose o c n

/-- A block reports an occurrence. A masked kind leaves no trace (R151); an unaddressed part records nothing
(R142). The cycle number is the timer's at the event (R150). -/
def report (o : Occurrence) (s : State) : State :=
  if s.addressed && o.enabled s.notes.mask then
    { s with notes := recordOccurrence o s.timer.cycle s.notes }
  else s

/-- What a record's leaving appends: from a full queue with a tally above 0, a LOST record (R155). -/
def afterLeaving (wasFull : Bool) (c : Cycle) (n : Notes) : Notes :=
  if wasFull && decide (0 < n.tally) then
    { n with queue := n.queue ++ [freshRecord (.lost n.tally) c], tally := 0 }
  else n

/-- The head leaves the queue (R155, R160). -/
def headLeaves (c : Cycle) (n : Notes) : Notes :=
  afterLeaving (decide (Config.noteCapacity ≤ n.queue.length)) c { n with queue := n.queue.tail }

/-- The record that bears a NOTE_SEQ leaves the queue (R155, R161). -/
def ackLeaves (q : BitVec 8) (c : Cycle) (n : Notes) : Notes :=
  afterLeaving (decide (Config.noteCapacity ≤ n.queue.length)) c
    { n with queue := n.queue.eraseP fun r => r.seq == some q }

/-- The note unit offers the head while it is WAITING (R157). -/
def noteOffered (n : Notes) : Option NoteRecord :=
  match n.queue with
  | r :: _ => if r.state = .waiting then some r else none
  | [] => none

end Sys2Proof.Machine
end

