-- ==== Sys2Proof/Machine/Flags.lean ====
section
/-! DEFINITION. Flags.lean: the conditions the blocks read: the plan's halves, sync-closed, the release gate, the
adjustment of the current cycle, eligibility, the guard, and what is due at the present offset. -/

namespace Sys2Proof.Machine

/-- Releases are held: HELD or HELD_PENDING (R112). -/
def PlanMode.holds : PlanMode → Bool
  | .steady => false
  | .pending => false
  | .held => true
  | .heldPending => true

/-- A switch is pending: PENDING or HELD_PENDING (R112). -/
def PlanMode.switching : PlanMode → Bool
  | .steady => false
  | .pending => true
  | .held => false
  | .heldPending => true

/-- The plan state with its held half replaced (R112). -/
def PlanMode.withHold (m : PlanMode) (h : Bool) : PlanMode :=
  match m.switching, h with
  | false, false => .steady
  | true, false => .pending
  | false, true => .held
  | true, true => .heldPending

/-- The plan state with its switch half replaced (R112). -/
def PlanMode.withSwitch (m : PlanMode) (sw : Bool) : PlanMode :=
  match sw, m.holds with
  | false, false => .steady
  | true, false => .pending
  | false, true => .held
  | true, true => .heldPending

/-- sync-closed: the state is ACQUIRE and LOST_POLICY is CLOSE (R73). -/
def syncClosed (y : Sync) : Bool := y.mode == .acquire && y.settings.lostPolicy == .close

/-- The release gate is open unless the plan holds or sync-closed is true (R82). -/
def gateOpen (s : State) : Bool := !s.plan.mode.holds && !syncClosed s.sync

/-- A, the adjustment of the current cycle: CL minus the active L (R55). -/
def adjustment (s : State) : Int := (s.timer.cl : Int) - (s.plan.activeL : Int)

/-- A slot is eligible in a cycle when the cycle number modulo EVERY is PHASE and it is not SPENT (R81). -/
def eligible (c : Cycle) (a : ActiveSlot) : Bool :=
  c.toNat % a.slot.every == a.slot.phase && !a.spent

/-- The slot at the next-slot position (R84). -/
def nextSlot? (s : State) : Option ActiveSlot := s.plan.active[s.engine.nextSlot]?

/-- The offset has reached the OPEN of the slot at the next-slot position (R84). -/
def takeDue (s : State) : Bool :=
  match nextSlot? s with
  | some a => a.slot.openAt == s.timer.offset
  | none => false

/-- The offset has reached CLOSE of the standing window (R93). -/
def closeDue (s : State) : Bool :=
  match s.engine.window with
  | some w => w.closeAt == s.timer.offset
  | none => false

/-- CYC is high and the offset has reached 32 (R58). -/
def cycDue (s : State) : Bool := s.cyc && s.timer.offset == Config.cycHigh

/-- The occupancy of the transmission in progress has ended (R14). -/
def completionDue {σ : Type} (t : Option (Transmission σ)) : Bool :=
  match t with
  | some x => x.remaining == 0
  | none => false

/-- The next tick would make the offset equal to CL, so that it is the wrap (R55). -/
def wrapDue (s : State) : Bool := decide (s.timer.cl ≤ s.timer.offset + 1)

/-- A slot whose window interval contains the resume offset does not open in that cycle (R97). -/
def barredByResume (s : State) (a : ActiveSlot) : Bool :=
  match s.engine.resumeOffset with
  | some r => decide (a.slot.openAt ≤ r) && decide (r < a.slot.openAt + a.slot.span)
  | none => false

/-- The hold queue of the window's stream is non-empty. -/
def windowHasFrames (s : State) (w : Window) : Bool := !(s.stream w.stream).queue.isEmpty

/-- The conditions under which the engine raises a release request (R88). -/
def requestWanted (s : State) : Bool :=
  match s.engine.window with
  | some w => w.phase == .opened && windowHasFrames s w && !s.engine.request && !w.onLine
  | none => false

/-- The guard's search in the current cycle: the first slot from the next-slot position on, OPEN below CL, that is
eligible for the current cycle number (R102). -/
def searchThisCycle (s : State) : Option ActiveSlot :=
  (s.plan.active.drop s.engine.nextSlot).find? fun a =>
    decide (a.slot.openAt < s.timer.cl) && eligible s.timer.cycle a

/-- The guard's search in the next cycle: the first slot eligible for the cycle number + 1 (R102). -/
def searchNextCycle (s : State) : Option ActiveSlot :=
  s.plan.active.find? fun a => eligible (s.timer.cycle + 1) a

/-- D, the distance in ticks to the next eligible OPEN, if the search finds one (R102). -/
def guardDistance (s : State) : Option Nat :=
  match searchThisCycle s with
  | some a => some (a.slot.openAt - s.timer.offset)
  | none =>
    match searchNextCycle s with
    | some a => some ((s.timer.cl - s.timer.offset) + a.slot.openAt)
    | none => none

/-- A window stands OPEN. -/
def windowOpen (s : State) : Bool :=
  match s.engine.window with
  | some w => w.phase == .opened
  | none => false

/-- The guard allows a pass-through frame with LEN payload bytes to start (R101). -/
def guardAllows (s : State) (len : Nat) : Bool :=
  if gateOpen s then
    if windowOpen s then false
    else
      match guardDistance s with
      | some d => decide (occupancy len + s.mgmt.guardMargin ≤ d)
      | none => true
  else true

/-- Cycle `a` is at or after cycle `b` (chapter 0). -/
def atOrAfter (a b : Cycle) : Bool := decide ((a - b).toNat < 2 ^ 31)

/-- A wrap into `n` meets the target of a pending switch (R116). -/
def meetsTarget (t : Target) (n : Cycle) : Bool :=
  match t with
  | .none => false
  | .next => true
  | .atCycle m => atOrAfter n m

end Sys2Proof.Machine
end

