-- ==== Sys2Proof/Machine/Operands.lean ====
section
/-! DEFINITION. Operands.lean: the layouts of requests, replies, notes, trace entries and counter groups (R131, R145,
R146, R147), and the argument ranges that ARG stands for. -/

namespace Sys2Proof.Machine

/-! ### Codes of one-byte fields (R145) -/

def SyncMode.code : SyncMode → Byte
  | .free => 0
  | .acquire => 1
  | .locked => 2
  | .holdover => 3

def PlanMode.code : PlanMode → Byte
  | .steady => 0
  | .pending => 1
  | .held => 2
  | .heldPending => 3

def Policy.code : Policy → Byte
  | .keep => 0
  | .replace => 1

def portCode : Port → Byte
  | .u => 0
  | .d => 1

def linkCode : Link → Byte
  | .down => 0
  | .up => 1

def StartCause.code : StartCause → Byte
  | .powerOn => 0
  | .restart => 1

/-- Target mode: 0 NONE, 1 NEXT, 2 AT (R145). -/
def Target.code : Target → Byte
  | .none => 0
  | .next => 1
  | .atCycle _ => 2

/-- TARGET_CYCLE: the cycle number under AT, 0 otherwise (R111). -/
def Target.cycle : Target → Cycle
  | .none => 0
  | .next => 0
  | .atCycle n => n

/-- The mode of a withdrawn target in the SWITCH codes: 0 NEXT, 1 AT (R145). -/
def Target.switchCode : Target → Byte
  | .none => 0
  | .next => 0
  | .atCycle _ => 1

/-- A flag's value: 0 no, 1 yes; other codes are undefined (R145). -/
def flagOf (n : Nat) : Option Bool :=
  match n with
  | 0 => some false
  | 1 => some true
  | _ => none

def policyOf (n : Nat) : Option Policy :=
  match n with
  | 0 => some .keep
  | 1 => some .replace
  | _ => none

def lostPolicyOf (n : Nat) : Option LostPolicy :=
  match n with
  | 0 => some .continue
  | 1 => some .close
  | _ => none

def unmatchedOf (n : Nat) : Option Unmatched :=
  match n with
  | 0 => some .forward
  | 1 => some .drop
  | _ => none

/-- A table index 0 to 31 (R145, R36). -/
def streamIdOf (n : Nat) : Option StreamId := if h : n < 32 then some ⟨n, h⟩ else none

/-! ### Statuses (R131) -/

/-- The slot-verification reasons (R114, R145). -/
inductive Reason where
  | dangling
  | beyond
  | tail
deriving DecidableEq, Repr

def Reason.code : Reason → Byte
  | .dangling => 1
  | .beyond => 2
  | .tail => 3

/-- The status codes of R131. -/
inductive Status where
  | ok
  | busy
  | state
  | arg
  | absent
  | duplicate
  | overlap
  | full
  | inUse
  | locked
  | tooSoon
  | verify
  | unknown
  | length
  | notEmpty
deriving DecidableEq, Repr

def Status.code : Status → Byte
  | .ok => 0
  | .busy => 1
  | .state => 2
  | .arg => 3
  | .absent => 4
  | .duplicate => 5
  | .overlap => 6
  | .full => 7
  | .inUse => 8
  | .locked => 9
  | .tooSoon => 10
  | .verify => 11
  | .unknown => 12
  | .length => 13
  | .notEmpty => 14

/-! ### Requests (R145) -/

/-- The requests of the table in R145. -/
inductive Op where
  | ident
  | streamWrite
  | streamDelete
  | streamLock
  | streamRead
  | streamPurge
  | slotAdd
  | slotDrop
  | slotRead
  | stageEmpty
  | stageFromActive
  | cycleStage
  | switch
  | withdraw
  | hold
  | resume
  | syncConfig
  | syncRead
  | traceRead
  | countRead
  | noteAck
  | noteConfig
  | passConfig
  | restart
deriving DecidableEq, Repr

/-- The OP codes 0x01 to 0x18, in order (R145). -/
def Op.table : List Op :=
  [.ident, .streamWrite, .streamDelete, .streamLock, .streamRead, .streamPurge, .slotAdd, .slotDrop, .slotRead,
   .stageEmpty, .stageFromActive, .cycleStage, .switch, .withdraw, .hold, .resume, .syncConfig, .syncRead,
   .traceRead, .countRead, .noteAck, .noteConfig, .passConfig, .restart]

/-- The request a code names; the codes outside 0x01 to 0x18 are undefined (R130). -/
def Op.ofByte (b : Byte) : Option Op := if b = 0 then none else Op.table[b.toNat - 1]?

/-- LEN of the request (R145). -/
def Op.len : Op → Nat
  | .ident => 1
  | .streamWrite => 7
  | .streamDelete => 2
  | .streamLock => 2
  | .streamRead => 2
  | .streamPurge => 2
  | .slotAdd => 12
  | .slotDrop => 5
  | .slotRead => 3
  | .stageEmpty => 1
  | .stageFromActive => 1
  | .cycleStage => 5
  | .switch => 6
  | .withdraw => 1
  | .hold => 2
  | .resume => 1
  | .syncConfig => 13
  | .syncRead => 1
  | .traceRead => 3
  | .countRead => 2
  | .noteAck => 2
  | .noteConfig => 4
  | .passConfig => 4
  | .restart => 1

/-- The OP byte of a request, 0 when LEN is 0 (R130). -/
def opByte (f : FrameBytes) : Byte := (payloadOf f).headD 0

/-- The request a MGMT frame carries, if its OP is defined (R130). -/
def opOf (f : FrameBytes) : Option Op :=
  match payloadOf f with
  | [] => none
  | b :: _ => Op.ofByte b

/-- The arguments, from payload byte 1 (R145). -/
def argsOf (f : FrameBytes) : List Byte := (payloadOf f).drop 1

/-- The argument of `n` bytes at byte `i` of the arguments (R145). -/
def arg (a : List Byte) (i n : Nat) : Nat := natBE ((a.drop i).take n)

/-- The arguments of STREAM_WRITE, or none where one is out of range (R36, R46). -/
structure StreamWriteArgs where
  index : StreamId
  tag : Tag
  depth : Nat
  policy : Policy
  ageLimit : Nat
deriving DecidableEq, Repr

def streamWriteArgs (a : List Byte) : Option StreamWriteArgs :=
  match streamIdOf (arg a 0 1), policyOf (arg a 4 1) with
  | some i, some p =>
    if arg a 1 2 ≤ 1023 ∧ 1 ≤ arg a 3 1 ∧ arg a 3 1 ≤ 4 ∧ arg a 5 1 ≤ 15 then
      some { index := i, tag := BitVec.ofNat 10 (arg a 1 2), depth := arg a 3 1, policy := p,
             ageLimit := arg a 5 1 }
    else none
  | _, _ => none

/-- The slot SLOT_ADD carries, or none where an argument is out of range (R106, check 1). -/
def slotArgs (a : List Byte) : Option Slot :=
  match streamIdOf (arg a 6 1), flagOf (arg a 10 1) with
  | some i, some once =>
    if arg a 0 4 ≤ 1999999 ∧ 8 ≤ arg a 4 2 ∧ 1 ≤ arg a 7 1 ∧ arg a 7 1 ≤ 4 ∧
        (arg a 8 1 = 1 ∨ arg a 8 1 = 2 ∨ arg a 8 1 = 4 ∨ arg a 8 1 = 8) ∧ arg a 9 1 < arg a 8 1 then
      some { openAt := arg a 0 4, span := arg a 4 2, stream := i, quota := arg a 7 1, every := arg a 8 1,
             phase := arg a 9 1, once := once }
    else none
  | _, _ => none

/-- The settings SYNC_CONFIG carries, or none where one is out of range (R64, R76, check 1). -/
def syncArgs (a : List Byte) : Option SyncSettings :=
  match flagOf (arg a 0 1), lostPolicyOf (arg a 11 1) with
  | some en, some lp =>
    if arg a 1 4 ≤ 1999999 ∧ 1 ≤ arg a 5 2 ∧ arg a 5 2 ≤ 4095 ∧ 1 ≤ arg a 7 2 ∧ arg a 7 2 ≤ 1023 ∧
        1 ≤ arg a 9 1 ∧ arg a 9 1 ≤ 15 ∧ 1 ≤ arg a 10 1 ∧ arg a 10 1 ≤ 255 then
      some { enable := en, markOffset := arg a 1 4, lockWindow := arg a 5 2, slewLimit := arg a 7 2,
             missLimit := arg a 9 1, holdoverLimit := arg a 10 1, lostPolicy := lp }
    else none
  | _, _ => none

/-! ### Replies (R131) -/

/-- A reply's MREP frame: DEST 0, the request's TAG, OP echo, STATUS, node address, result (R131, R145). -/
def replyFrame (node : NodeAddr) (tag : Tag) (op : Byte) (st : Status) (result : List Byte) : FrameBytes :=
  mkFrame 0 kindMrep tag ([op, st.code, node.zeroExtend 8] ++ result)

/-- A VERIFY result: the reason and the slot's OPEN (R145). -/
def verifyResult (r : Reason) (openAt : Nat) : List Byte := r.code :: bytesBE 4 openAt

/-- A slot's fields in SLOT_READ's result (R145). -/
def slotBytes (x : Slot) (spent : Bool) : List Byte :=
  bytesBE 4 x.openAt ++ bytesBE 2 x.span ++
    [BitVec.ofNat 8 x.stream.val, BitVec.ofNat 8 x.quota, BitVec.ofNat 8 x.every, BitVec.ofNat 8 x.phase,
     flagByte x.once, flagByte spent]

/-- The slot fields read 0 (R111). -/
def noSlotBytes : List Byte := List.replicate 12 0

/-- The plan status of SLOT_READ's result (R111, R145). -/
def planStatusBytes (p : Plan) : List Byte :=
  [p.mode.code, p.target.code] ++ bytesBE 4 p.target.cycle.toNat ++ bytesBE 4 p.activeL ++ bytesBE 4 p.stagedL ++
    [BitVec.ofNat 8 p.active.length, BitVec.ofNat 8 p.staged.length, BitVec.ofNat 8 p.holdLimit,
     BitVec.ofNat 8 p.holdCount, BitVec.ofNat 8 p.resumeGuard]

/-- A trace entry: 24 bytes, all 0 for an empty marker (R147). DESIGN CHOICE (log entry 15): bits 4 to 6 of the FLAGS byte
of a written entry, which the spec does not name, are sent as 0. -/
def traceBytes : Option TraceRecord → List Byte
  | none => List.replicate 24 0
  | some r =>
    bytesBE 2 r.seq.toNat ++ bytesBE 4 r.cycle.toNat ++
      [BitVec.ofBool true ++ (0 : BitVec 3) ++ BitVec.ofBool r.adjusted ++ BitVec.ofBool r.step ++
         BitVec.ofBool r.double ++ BitVec.ofBool r.present,
       r.stateAfter.code] ++
      bytesBE 4 r.captureOffset ++ bytesBE 4 r.markNumber.toNat ++
      bytesBE 4 (BitVec.ofInt 32 r.deviation).toNat ++ bytesBE 4 r.nextLength

/-- Counters in a reply: 4 bytes each (R147). -/
def countBytes (cs : List Count) : List Byte := cs.flatMap fun c => bytesBE 4 c.toNat

/-! ### Counter groups in reply order (R147, R164) -/

def PortCounters.list (c : PortCounters) : List Count :=
  [c.rxGood, c.rxCheck, c.rxMalformed, c.rxMisdirected, c.rxNobuf, c.txFrames, c.linkChanges]

def ForwardCounters.list (c : ForwardCounters) : List Count :=
  [c.passForwarded, c.passDropped, c.unmatchedDropped, c.returnForwarded, c.returnDropped, c.marksForwarded,
   c.marksReplaced]

def SyncCounters.list (c : SyncCounters) : List Count :=
  [c.marksCaptured, c.doubleMarks, c.steps, c.lockLosses, c.misses]

def PlanCounters.list (c : PlanCounters) : List Count :=
  [c.switchesDone, c.switchesWithdrawn, c.holds, c.holdExpiries, c.windowsOpened, c.windowsSkipped]

def MgmtCounters.list (c : MgmtCounters) : List Count :=
  [c.requestsExecuted, c.replays, c.inputOverruns, c.broadcastIgnored]

def NoteCounters.list (c : NoteCounters) : List Count :=
  [c.notesSent, c.notesResent, c.notesAbandoned, c.notesLost]

def StreamCounters.list (c : StreamCounters) : List Count :=
  [c.arrived, c.released, c.superseded, c.refused, c.stale, c.missed, c.purged]

/-- The groups COUNT_READ names (R164). -/
inductive Group where
  | port (p : Port)
  | forward
  | sync
  | plan
  | mgmt
  | notes
  | stream (i : StreamId)
deriving DecidableEq, Repr

/-- The group a code names; 7 to 0x1F and 0x40 to 0xFF name none (R164). -/
def Group.ofCode (n : Nat) : Option Group :=
  match n with
  | 0 => some (.port .u)
  | 1 => some (.port .d)
  | 2 => some .forward
  | 3 => some .sync
  | 4 => some .plan
  | 5 => some .mgmt
  | 6 => some .notes
  | n => if 0x20 ≤ n then (streamIdOf (n - 0x20)).map .stream else none

/-- A group's counters as they stand, in reply order (R164, R167). -/
def groupList (s : State) : Group → List Count
  | .port p => (s.port p).counters.list
  | .forward => s.stores.counters.list
  | .sync => s.sync.counters.list
  | .plan => s.plan.counters.list
  | .mgmt => s.mgmt.counters.list
  | .notes => s.notes.counters.list
  | .stream i => (s.stream i).counters.list

/-- Every counter of the group becomes 0 (R167). -/
def zeroGroup (g : Group) (s : State) : State :=
  match g with
  | .port p => countPort p (fun _ => {}) s
  | .forward => countForward (fun _ => {}) s
  | .sync => countSync (fun _ => {}) s
  | .plan => countPlan (fun _ => {}) s
  | .mgmt => countMgmt (fun _ => {}) s
  | .notes => countNotes (fun _ => {}) s
  | .stream i => countStream i (fun _ => {}) s

/-! ### Notes (R146) -/

/-- The DATA of an occurrence (R146). -/
def Occurrence.data : Occurrence → List Byte
  | .superseded _ => []
  | .refused _ => []
  | .stale _ => []
  | .missedWindow _ openAt => bytesBE 4 openAt
  | .poolExhausted => []
  | .syncState old new => [old.code, new.code]
  | .switchDone c => bytesBE 4 c.toNat
  | .holdExpired => []
  | .linkChange p l => [portCode p, linkCode l]
  | .doubleMark => []
  | .broadcastRefused op status => [op, status]
  | .inputOverrun => []
  | .lost n => bytesBE 2 n
  | .started cause => [cause.code]

/-- A NOTE payload: the record's fields in the order of R146, those its kind carries. -/
def notePayload (r : NoteRecord) : List Byte :=
  [BitVec.ofNat 8 r.occ.kind, r.seq.getD 0] ++
    (if r.occ.coalesces then
      BitVec.ofNat 8 r.count :: (bytesBE 4 r.first.toNat ++ bytesBE 4 r.last.toNat)
     else bytesBE 4 r.first.toNat) ++
    (match r.occ.stream with
     | some i => [BitVec.ofNat 8 i.val]
     | none => []) ++
    r.occ.data

/-- The NOTE frame of a record: DEST 0, TAG the part's node address (R158). -/
def noteFrame (node : NodeAddr) (r : NoteRecord) : FrameBytes :=
  mkFrame 0 kindNote (node.zeroExtend 10) (notePayload r)

end Sys2Proof.Machine
end

