-- ==== Sys2Proof/Machine/Engine.lean ====
section
/-! DEFINITION. Engine.lean: the release engine's windows and requests (R84 to R98), the two transmitter arbiters
(R31, R99), and when an event invokes them (R32, R100). -/

namespace Sys2Proof.Machine

/-! ### Release requests and windows -/

/-- The engine with its window record replaced. -/
def setWindow (w : Option Window) (s : State) : State := { s with engine := { s.engine with window := w } }

/-- The engine with its request flag replaced. -/
def setRequest (r : Bool) (s : State) : State := { s with engine := { s.engine with request := r } }

/-- The engine raises a release request when all of R88's conditions hold. -/
def raiseRequest (s : State) : State := if requestWanted s then setRequest true s else s

/-- The stream unit reports an admission to entry `i`: the engine tests for a request if its window is that stream's;
an admission to any other stream raises nothing (R88). -/
def raiseFor (i : StreamId) (s : State) : State :=
  match s.engine.window with
  | some w => if w.stream = i then raiseRequest s else s
  | none => s

/-- The stream unit's report that entry `i`'s queue is empty withdraws a standing request (R42, R91). -/
def withdrawIfEmpty (i : StreamId) (s : State) : State :=
  match s.engine.window with
  | some w =>
    if w.stream = i ∧ (s.stream i).queue = [] then setRequest false s else s
  | none => s

/-- The slot at a position of the active plan is marked SPENT (R92). -/
def spendSlot (pos : Nat) (s : State) : State :=
  { s with plan := { s.plan with active := s.plan.active.modify pos fun a => { a with spent := true } } }

/-- A standing window goes: the request is withdrawn, a ONCE slot is SPENT, the state is GAP, WIN falls. MISSED is not
examined (R96; R92 after its MISSED check). -/
def endWindow (s : State) : State :=
  match s.engine.window with
  | some w =>
    let s := setRequest false s
    let s := if w.once then spendSlot w.position s else s
    { setWindow none s with win := false }
  | none => s

/-- The MISSED check of a close (R92). -/
def missedCheck (s : State) : State :=
  match s.engine.window with
  | some w =>
    if w.phase == .opened && windowHasFrames s w then
      report (.missedWindow w.stream w.openAt)
        (countStream w.stream (fun c => { c with missed := c.missed + 1 }) s)
    else s
  | none => s

/-- A window closes (R92). -/
def closeWindow (s : State) : State := endWindow (missedCheck s)

/-- A window opens for the slot at position `pos` (R85). -/
def openWindow (pos : Nat) (x : Slot) (s : State) : State :=
  let s := setWindow (some { position := pos, openAt := x.openAt, closeAt := x.openAt + x.span, stream := x.stream,
                             quota := x.quota, once := x.once, released := 0, phase := .opened,
                             onLine := false }) s
  let s := countPlan (fun c => { c with windowsOpened := c.windowsOpened + 1 }) { s with win := true }
  raiseRequest (setRequest false s)

/-- The engine takes the slot at the next-slot position (R84): passed over, opened (R85) or skipped (R86, R97). -/
def takeSlot (s : State) : State :=
  match nextSlot? s with
  | some a =>
    let pos := s.engine.nextSlot
    let s := { s with engine := { s.engine with nextSlot := pos + 1 } }
    if eligible s.timer.cycle a then
      if gateOpen s && !barredByResume s a then openWindow pos a.slot s
      else countPlan (fun c => { c with windowsSkipped := c.windowsSkipped + 1 }) s
    else s
  | none => s

/-- The engine's event at the present offset: a close that is due, and then a take that is due (R87). -/
def engineEvent (s : State) : State :=
  let s := if closeDue s then closeWindow s else s
  if takeDue s then takeSlot s else s

/-- The gate was open before an event and is shut after it: a standing window ends at once (R96). -/
def gateEnds (before after : State) : State :=
  if gateOpen before && !gateOpen after then endWindow after else after

/-! ### Hold queues -/

/-- A frame enters entry `i`'s hold queue at the tail (R38). -/
def admitRecord (i : StreamId) (b : BufId) (s : State) : State :=
  let r : Held := { buffer := b, len := lenOf (bufBytes s b), arrivalCycle := s.timer.cycle,
                    arrivalOffset := s.timer.offset, age := 0 }
  setQueue i ((s.stream i).queue ++ [r]) (markBuf b .queued s)

/-- The head of a full queue is superseded (R39). -/
def supersedeHead (i : StreamId) (s : State) : State :=
  match (s.stream i).queue with
  | h :: q =>
    let s := setQueue i q (freeBuf h.buffer s)
    report (.superseded i) (countStream i (fun c => { c with superseded := c.superseded + 1 }) s)
  | [] => s

/-- A frame is refused by a full queue under KEEP (R40). -/
def refuseFrame (i : StreamId) (b : BufId) (s : State) : State :=
  report (.refused i) (countStream i (fun c => { c with refused := c.refused + 1 }) (freeBuf b s))

/-- A good matched DATA frame is handed to the stream unit (R38). -/
def admitFrame (i : StreamId) (b : BufId) (s : State) : State :=
  let s := countStream i (fun c => { c with arrived := c.arrived + 1 }) s
  if (s.stream i).queue.length < (s.stream i).depth then
    raiseFor i (admitRecord i b s)
  else
    match (s.stream i).policy with
    | .replace => raiseFor i (admitRecord i b (supersedeHead i s))
    | .keep => refuseFrame i b s

/-- Every QUEUED record of entry `i` is removed and its buffer freed, PURGED counting each (R47, R52). -/
def purgeQueue (i : StreamId) (s : State) : State :=
  let q := (s.stream i).queue
  let s := setQueue i [] (freeBufs (q.map Held.buffer) s)
  withdrawIfEmpty i (countStream i (fun c => { c with purged := c.purged + BitVec.ofNat 32 q.length }) s)

/-- A frame of entry `i` that is SENDING is detached (R43). -/
def detach (i : StreamId) (s : State) : State :=
  match s.txD with
  | some t =>
    match t.source with
    | .release b (some j) =>
      if j = i then { s with txD := some { t with source := .release b none } } else s
    | .release _ none => s
    | .mark => s
    | .pass _ => s
  | none => s

/-! ### D transmitter arbiter (R99) -/

/-- The port D transmitter becomes BUSY with a frame (R14). -/
def startD (src : SourceD) (bytes : FrameBytes) (s : State) : State :=
  { s with txD := some { source := src, bytes := bytes, remaining := occupancy (lenOf bytes) } }

/-- The mark store is granted and becomes EMPTY (R30). -/
def grantMark (m : FrameBytes) (s : State) : State :=
  startD .mark m { s with stores := { s.stores with mark := none } }

/-- The window after a grant: RELEASED rises, and at QUOTA the state is DONE (R89). -/
def windowGranted (w : Window) : Window :=
  { w with released := w.released + 1, onLine := true,
           phase := if w.quota ≤ w.released + 1 then .done else w.phase }

/-- The standing request is granted: the head of the stream's queue becomes SENDING (R43, R89). -/
def grantRelease (w : Window) (h : Held) (q : List Held) (s : State) : State :=
  let s := setQueue w.stream q (markBuf h.buffer .sending s)
  let s := setRequest false (setWindow (some (windowGranted w)) s)
  startD (.release h.buffer (some w.stream)) (bufBytes s h.buffer) s

/-- The head of the pass-through queue is granted (R26). -/
def grantPass (b : BufId) (q : List BufId) (s : State) : State :=
  let s := markBuf b .sending { s with stores := { s.stores with pass := q } }
  startD (.pass b) (bufBytes s b) s

/-- The third candidate: the pass-through head, if the guard allows it (R99, R101). -/
def tryPass (s : State) : State :=
  match s.stores.pass with
  | b :: q => if guardAllows s (lenOf (bufBytes s b)) then grantPass b q s else s
  | [] => s

/-- The second candidate: the standing release request (R99). -/
def tryRelease (s : State) : State :=
  match s.engine.request, s.engine.window with
  | true, some w =>
    match (s.stream w.stream).queue with
    | h :: q => grantRelease w h q s
    | [] => tryPass s
  | true, none => tryPass s
  | false, _ => tryPass s

/-- One decision of the D transmitter arbiter (R99): with the transmitter BUSY or port D DOWN it grants nothing
(R16). -/
def arbiterD (s : State) : State :=
  match s.txD with
  | some _ => s
  | none =>
    if s.portD.link = .up then
      match s.stores.mark with
      | some m => grantMark m s
      | none => tryRelease s
    else s

/-! ### U transmitter arbiter (R31) -/

/-- The port U transmitter becomes BUSY with a frame (R14). -/
def startU (src : SourceU) (bytes : FrameBytes) (s : State) : State :=
  { s with txU := some { source := src, bytes := bytes, remaining := occupancy (lenOf bytes) } }

/-- LAST_SOURCE is set to the class granted (R31). -/
def setLast (c : ClassU) (s : State) : State := { s with stores := { s.stores with lastSource := c } }

/-- The RETURN class is granted: the head leaves the return queue (R28). -/
def grantBack (b : BufId) (q : List BufId) (s : State) : State :=
  let s := markBuf b .sending (setLast .back { s with stores := { s.stores with back := q } })
  startU (.back b) (bufBytes s b) s

/-- A reply is granted: it stays the outbox head while it is transmitted (R132). -/
def grantReply (r : Reply) (s : State) : State := startU .reply r.bytes (setLast .part s)

/-- The record of a note granted: NOTE_SEQ if absent, ATTEMPTS, SENDING (R158). -/
def sentRecord (n : Notes) (r : NoteRecord) : NoteRecord :=
  { r with seq := some (r.seq.getD n.nextSeq), attempts := r.attempts + 1, state := .sending }

/-- The note unit at the grant of its head (R158). -/
def notesGranted (n : Notes) (r : NoteRecord) (rs : List NoteRecord) : Notes :=
  { n with
    queue := sentRecord n r :: rs
    nextSeq := if r.seq.isSome then n.nextSeq else n.nextSeq + 1
    counters :=
      if r.attempts = 0 then { n.counters with notesSent := n.counters.notesSent + 1 }
      else { n.counters with notesResent := n.counters.notesResent + 1 } }

/-- The offered note is granted and its frame composed from the record as it stands (R158). -/
def grantNote (r : NoteRecord) (s : State) : State :=
  startU .note (noteFrame s.nodeAddr (sentRecord s.notes r))
    (setLast .part { s with notes := notesGranted s.notes r s.notes.queue.tail })

/-- The PART candidate exists: an outbox entry, or an offered note (R31). -/
def partWaits (s : State) : Bool := !s.mgmt.outbox.isEmpty || (noteOffered s.notes).isSome

/-- The PART class is granted: an outbox entry goes before a note (R31). -/
def grantPart (s : State) : State :=
  match s.mgmt.outbox with
  | r :: _ => grantReply r s
  | [] =>
    match noteOffered s.notes with
    | some r => grantNote r s
    | none => s

/-- One decision of the U transmitter arbiter (R31): of two waiting classes the one other than LAST_SOURCE. With the
transmitter BUSY or port U DOWN it grants nothing (R16). -/
def arbiterU (s : State) : State :=
  match s.txU with
  | some _ => s
  | none =>
    if s.portU.link = .up then
      match s.stores.back with
      | b :: q => if partWaits s && s.stores.lastSource == .back then grantPart s else grantBack b q s
      | [] => grantPart s
    else s

/-! ### What invokes the arbiters -/

/-- A note candidate appears: the head is WAITING, and it was not WAITING or was another record before (R157). -/
def noteAppears (before after : State) : Bool :=
  match noteOffered after.notes with
  | some r =>
    match noteOffered before.notes with
    | some r' => r'.seq != r.seq
    | none => true
  | none => false

/-- The event invokes the U transmitter arbiter (R32): the transmitter became IDLE, port U came UP, or a candidate
appeared. -/
def invokesU (before after : State) : Bool :=
  (before.txU.isSome && after.txU.isNone)
    || (before.portU.link == .down && after.portU.link == .up)
    || (before.stores.back.isEmpty && !after.stores.back.isEmpty)
    || (before.mgmt.outbox.isEmpty && !after.mgmt.outbox.isEmpty)
    || noteAppears before after

/-- The event invokes the D transmitter arbiter (R100): the transmitter became IDLE, port D came UP, the mark store
filled, a request was raised, a frame met the empty pass-through queue, a slot was taken, the window changed, or the
gate opened or shut. A wrap invokes it by itself (Machine/Wrap.lean). -/
def invokesD (before after : State) : Bool :=
  (before.txD.isSome && after.txD.isNone)
    || (before.portD.link == .down && after.portD.link == .up)
    || (before.stores.mark.isNone && after.stores.mark.isSome)
    || (!before.engine.request && after.engine.request)
    || (before.stores.pass.isEmpty && !after.stores.pass.isEmpty)
    || before.engine.nextSlot != after.engine.nextSlot
    || before.engine.window != after.engine.window
    || gateOpen before != gateOpen after

/-- The end of an event: each arbiter it invokes makes one decision on the state the event leaves (R32, R100). -/
def conclude (before after : State) : State :=
  let s := if invokesD before after then arbiterD after else after
  if invokesU before after then arbiterU s else s

end Sys2Proof.Machine
end

