-- ==== Sys2Proof/Machine/Receive.lean ====
section
/-! DEFINITION. Receive.lean: reception, classification and delivery of frames, and the link state (R3 to R17), with
the steps FIRST_BYTE_OF_FRAME, HEADER_TIME, FRAME_END and LINK_CHANGE. -/

namespace Sys2Proof.Machine

/-! ### Bytes -/

/-- The receiver after a byte of a frame in HEADER or BODY (R3): the byte is counted; the header and payload bytes
enter the running CHECK computation; the two bytes after them are the CHECK received; later ones are only counted. -/
def rxByte (rx : Receiver) (b : Byte) : Receiver :=
  let inBody := decide (rx.count < 4) || decide (rx.count < 4 + lenOf rx.header)
  { rx with
    count := rx.count + 1
    header := if rx.count < 4 then rx.header ++ [b] else rx.header
    crc := if inBody then crcByte rx.crc b else rx.crc
    check :=
      if inBody then rx.check
      else if rx.count < 6 + lenOf rx.header then (rx.check <<< 8) ||| b.zeroExtend 16
      else rx.check }

/-- A byte of a frame in BODY is written into the resource its route took: the mark receive area, the management
receive area, a pool buffer. Bytes beyond the 6 + LEN announced are not written (R3). -/
def writeByte (rx : Receiver) (b : Byte) (s : State) : State :=
  if rx.count < 6 + lenOf rx.header then
    let s :=
      match rx.route with
      | some .mark => { s with markArea := s.markArea ++ [b] }
      | some .mgmt => { s with mgmtArea := s.mgmtArea ++ [b] }
      | some .broadcast => { s with mgmtArea := s.mgmtArea ++ [b] }
      | some (.hold _) => s
      | some .pass => s
      | some .drop => s
      | some .back => s
      | some .misdirected => s
      | none => s
    match rx.buffer with
    | some x => writeBuf x b s
    | none => s
  else s

/-- A byte of BODY arrives: counted, checked and written (R3). -/
def bodyByte (p : Port) (b : Byte) (s : State) : State :=
  let rx := (s.port p).rx
  setRx p (rxByte rx b) (writeByte rx b s)

/-- The resource taken at header time is released: a buffer is freed, an area emptied (R5, R17). -/
def releaseResource (rx : Receiver) (s : State) : State :=
  let s :=
    match rx.buffer with
    | some x => freeBuf x s
    | none => s
  match rx.route with
  | some .mark => { s with markArea := [] }
  | some .mgmt => { s with mgmtArea := [] }
  | some .broadcast => { s with mgmtArea := [] }
  | some (.hold _) => s
  | some .pass => s
  | some .drop => s
  | some .back => s
  | some .misdirected => s
  | none => s

/-! ### Header time (R4, R7 to R9, R21) -/

/-- The stream entry a TAG matches: the valid entry with that TAG (R9, R35). -/
def lookup (s : State) (t : Tag) : Option StreamId :=
  (List.finRange 32).find? fun i => (s.stream i).valid && (s.stream i).tag == t

/-- The classifier's route for a header on port U (R7, R9, R12, R13). -/
def classifyU (s : State) (f : FrameBytes) : Route :=
  if kindOf f = kindData then
    match lookup s (tagOf f) with
    | some i => .hold i
    | none =>
      match s.mgmt.unmatched with
      | .forward => .pass
      | .drop => .drop
  else if kindOf f = kindMark then .mark
  else if kindOf f = kindMgmt then
    if s.addressed then
      if destOf f = s.nodeAddr then .mgmt
      else if destOf f = broadcastAddr then .broadcast
      else .pass
    else .pass
  else .misdirected

/-- The classifier's route for a header on port D (R8, R13). -/
def classifyD (f : FrameBytes) : Route :=
  if kindOf f = kindMark ∨ kindOf f = kindMgmt then .misdirected else .back

/-- The classifier's route for a header (R7, R8). -/
def classify (p : Port) (s : State) (f : FrameBytes) : Route :=
  match p with
  | .u => classifyU s f
  | .d => classifyD f

/-- The routes whose frame needs a pool buffer (R7, R8). -/
def Route.needsBuffer : Route → Bool
  | .hold _ => true
  | .pass => true
  | .broadcast => true
  | .back => true
  | .drop => false
  | .mark => false
  | .mgmt => false
  | .misdirected => false

/-- The header bytes are written into the resource just taken (R3). -/
def writeHeader (rx : Receiver) (s : State) : State :=
  let s :=
    match rx.route with
    | some .mark => { s with markArea := rx.header }
    | some .mgmt => { s with mgmtArea := rx.header }
    | some .broadcast => { s with mgmtArea := rx.header }
    | some (.hold _) => s
    | some .pass => s
    | some .drop => s
    | some .back => s
    | some .misdirected => s
    | none => s
  match rx.buffer with
  | some x => setBuf x { state := .filling, bytes := rx.header } s
  | none => s

/-- The receiver goes to BODY with its route and the buffer granted, if any (R3). -/
def enterBody (p : Port) (rx : Receiver) (r : Route) (b : Option BufId) (s : State) : State :=
  let rx := { rx with state := .body, route := some r, buffer := b }
  setRx p rx (writeHeader rx s)

/-- A refusal of a pool buffer: RX_NOBUF and a POOL_EXHAUSTED occurrence (R21). -/
def refuseBuffer (p : Port) (s : State) : State :=
  report .poolExhausted (countPort p (fun c => { c with rxNobuf := c.rxNobuf + 1 }) s)

/-- The receiver in SKIP: the rest of the frame is received and ignored (R3, R4). -/
def skipping : Receiver := { state := .skip }

/-- After a refusal the receiver goes to SKIP; for a broadcast request it stays for the management copy (R12, R21). -/
def afterRefusal (p : Port) (rx : Receiver) (r : Route) (s : State) : State :=
  match r with
  | .broadcast => enterBody p rx .broadcast none (refuseBuffer p s)
  | .hold _ => setRx p skipping (refuseBuffer p s)
  | .pass => setRx p skipping (refuseBuffer p s)
  | .back => setRx p skipping (refuseBuffer p s)
  | .drop => setRx p skipping (refuseBuffer p s)
  | .mark => setRx p skipping (refuseBuffer p s)
  | .mgmt => setRx p skipping (refuseBuffer p s)
  | .misdirected => setRx p skipping (refuseBuffer p s)

/-- The resource a route calls for is taken or refused (R7, R8, R12, R21). -/
def takeResource (p : Port) (rx : Receiver) (r : Route) (s : State) : State :=
  if r.needsBuffer then
    if mayAllocate p s then
      match lowestFree s with
      | some b => enterBody p rx r (some b) s
      | none => afterRefusal p rx r s
    else afterRefusal p rx r s
  else enterBody p rx r none s

/-- Header time on port `p`, the fourth byte being `b` (R3, R4). -/
def headerEvent (p : Port) (b : Byte) (s : State) : State :=
  let rx := rxByte (s.port p).rx b
  if headerMalformed rx.header then
    countPort p (fun c => { c with rxMalformed := c.rxMalformed + 1 }) (setRx p skipping s)
  else takeResource p rx (classify p s rx.header) s

/-! ### End of a frame (R5, R6, R10 to R13) -/

/-- A good frame reaches the pass-through queue (R25). -/
def passAppend (b : BufId) (s : State) : State :=
  if s.stores.pass.length < Config.passCapacity then
    markBuf b .queued { s with stores := { s.stores with pass := s.stores.pass ++ [b] } }
  else
    countForward (fun c => { c with passDropped := c.passDropped + 1 }) (freeBuf b s)

/-- A good frame reaches the return queue (R27). -/
def backAppend (b : BufId) (s : State) : State :=
  if s.stores.back.length < Config.returnCapacity then
    markBuf b .queued { s with stores := { s.stores with back := s.stores.back ++ [b] } }
  else
    countForward (fun c => { c with returnDropped := c.returnDropped + 1 }) (freeBuf b s)

/-- A good DATA frame is discarded under DROP (R9, R10). -/
def dropUnmatched (s : State) : State :=
  countForward (fun c => { c with unmatchedDropped := c.unmatchedDropped + 1 }) s

/-- The end-of-frame recheck of a matched DATA frame (R10). -/
def recheck (i : StreamId) (tag : Tag) (b : BufId) (s : State) : State :=
  if (s.stream i).valid && (s.stream i).tag == tag then admitFrame i b s
  else
    match s.mgmt.unmatched with
    | .forward => passAppend b s
    | .drop => dropUnmatched (freeBuf b s)

/-- A good MARK fills or overwrites the capture record (R60, R61). -/
def captureMark (n : Cycle) (s : State) : State :=
  let c : Capture := { offset := s.timer.offset, localCycle := s.timer.cycle, markNumber := n,
                       double := s.sync.capture.isSome }
  let again := s.sync.capture.isSome
  let s := countSync (fun k => { k with marksCaptured := k.marksCaptured + 1 })
    { s with sync := { s.sync with capture := some c } }
  if again then report .doubleMark (countSync (fun k => { k with doubleMarks := k.doubleMarks + 1 }) s)
  else s

/-- The mark store takes a copy of a good MARK (R29). -/
def storeMark (m : FrameBytes) (s : State) : State :=
  let again := s.stores.mark.isSome
  let s := { s with stores := { s.stores with mark := some m } }
  if again then countForward (fun c => { c with marksReplaced := c.marksReplaced + 1 }) s else s

/-- A good MARK is handed to the sync unit and the mark store in one event (R11). -/
def deliverMark (s : State) : State :=
  let m := s.markArea
  let n : Cycle := BitVec.ofNat 32 (natBE (payloadOf m))
  storeMark m (captureMark n { s with markArea := [] })

/-- A request is offered to the management input queue (R127). -/
def offerRequest (s : State) : State :=
  let f := s.mgmtArea
  let s := { s with mgmtArea := [] }
  if s.mgmt.input.length < Config.inputCapacity then
    { s with mgmt := { s.mgmt with input := s.mgmt.input ++ [f] } }
  else
    report .inputOverrun (countMgmt (fun c => { c with inputOverruns := c.inputOverruns + 1 }) s)

/-- A good frame is delivered to its route (R6). -/
def deliver (rx : Receiver) (s : State) : State :=
  match rx.route, rx.buffer with
  | some (.hold i), some b => recheck i (tagOf rx.header) b s
  | some .pass, some b => passAppend b s
  | some .back, some b => backAppend b s
  | some .drop, _ => dropUnmatched s
  | some .mark, _ => deliverMark s
  | some .mgmt, _ => offerRequest s
  | some .broadcast, some b => passAppend b (offerRequest s)
  | some .broadcast, none => offerRequest s
  | some .misdirected, _ => s
  | some (.hold _), none => s
  | some .pass, none => s
  | some .back, none => s
  | none, _ => s

/-- A good frame's count: RX_MISDIRECTED for a misdirected kind, RX_GOOD for every other (R6, R13). -/
def countGood (p : Port) (r : Option Route) (s : State) : State :=
  if r = some .misdirected then countPort p (fun c => { c with rxMisdirected := c.rxMisdirected + 1 }) s
  else countPort p (fun c => { c with rxGood := c.rxGood + 1 }) s

/-- The outcomes of a frame's end (R5). -/
inductive EndOutcome where
  | malformed
  | checkError
  | good
deriving DecidableEq, Repr

/-- The end checks of a frame in BODY, in their order (R5). -/
def endOutcome (rx : Receiver) : EndOutcome :=
  if rx.count ≠ 6 + lenOf rx.header then .malformed
  else if rx.check ≠ rx.crc then .checkError
  else .good

/-- The end of a frame whose last byte has been taken into `rx` (R5, R6). -/
def endBody (p : Port) (rx : Receiver) (s : State) : State :=
  let s := setRx p {} s
  match endOutcome rx with
  | .malformed => countPort p (fun c => { c with rxMalformed := c.rxMalformed + 1 }) (releaseResource rx s)
  | .checkError => countPort p (fun c => { c with rxCheck := c.rxCheck + 1 }) (releaseResource rx s)
  | .good => deliver rx (countGood p rx.route s)

/-- The end of a frame on port `p`, its last byte being `b` (R3, R5). -/
def endEvent (p : Port) (b : Byte) (s : State) : State :=
  match (s.port p).rx.state with
  | .skip => setRx p {} s
  | .idle => countPort p (fun c => { c with rxMalformed := c.rxMalformed + 1 }) s
  | .header => countPort p (fun c => { c with rxMalformed := c.rxMalformed + 1 }) (setRx p {} s)
  | .body => let s := bodyByte p b s; endBody p (s.port p).rx s

/-! ### Link state (R15, R17) -/

/-- The link goes DOWN during a frame: in HEADER or BODY it ends as MALFORMED, in SKIP it simply ends (R17). -/
def cutFrame (p : Port) (s : State) : State :=
  let rx := (s.port p).rx
  match rx.state with
  | .idle => s
  | .skip => setRx p {} s
  | .header => countPort p (fun c => { c with rxMalformed := c.rxMalformed + 1 }) (setRx p {} s)
  | .body =>
    countPort p (fun c => { c with rxMalformed := c.rxMalformed + 1 }) (releaseResource rx (setRx p {} s))

/-- The state with port `p`'s link state as given (R15). -/
def setLink (p : Port) (l : Link) (s : State) : State := s.setPort p { s.port p with link := l }

/-- A change of port `p`'s link state to `l` (R15). -/
def changeLink (p : Port) (l : Link) (s : State) : State :=
  let s := countPort p (fun c => { c with linkChanges := c.linkChanges + 1 }) (setLink p l s)
  let s := report (.linkChange p l) s
  match l with
  | .down => cutFrame p s
  | .up => s

/-- A report of the line interface: a change if it differs from the held state, and no event if it is equal (R15). -/
def linkReport (p : Port) (l : Link) (s : State) : State :=
  if (s.port p).link = l then s else conclude s (changeLink p l s)

/-! ### The steps -/

/-- A receiver takes bytes while the part runs and its link is UP (R17, R172). -/
def receives (p : Port) (s : State) : Bool := s.power == .running && (s.port p).link == .up

/-- The first byte of a frame, or a later one that is neither the fourth nor the last (R3). -/
def byteEvent (p : Port) (b : Byte) (s : State) : State :=
  let rx := (s.port p).rx
  match rx.state with
  | .idle => setRx p { rxByte {} b with state := .header } s
  | .header => if rx.count = 3 then s else setRx p (rxByte rx b) s
  | .body => bodyByte p b s
  | .skip => s

/-- FIRST_BYTE_OF_FRAME (R3). -/
def execFirstByteOfFrame (p : Port) (b : Byte) (s : State) : Host.Outcome State Fault Refusal :=
  .next (if receives p s then byteEvent p b s else s)

/-- The fourth byte of a frame is the next to come (R3). -/
def headerDue (p : Port) (s : State) : Bool := (s.port p).rx.state == .header && (s.port p).rx.count == 3

/-- HEADER_TIME (R3, R4, R7 to R9, R21). -/
def execHeaderTime (p : Port) (b : Byte) (s : State) : Host.Outcome State Fault Refusal :=
  .next (if receives p s && headerDue p s then conclude s (headerEvent p b s) else s)

/-- FRAME_END (R5, R6). -/
def execFrameEnd (p : Port) (b : Byte) (s : State) : Host.Outcome State Fault Refusal :=
  .next (if receives p s then conclude s (endEvent p b s) else s)

/-- LINK_CHANGE (R15 to R17). -/
def execLinkChange (p : Port) (l : Link) (s : State) : Host.Outcome State Fault Refusal :=
  .next (if s.power = .running then linkReport p l s else s)

end Sys2Proof.Machine
end

