-- ==== Sys2Proof/Machine/Sync.lean ====
section
/-! DEFINITION. Sync.lean: the deviation, the wrap's evaluation of the capture record, steps, and the trace ring (R62
to R74). -/

namespace Sys2Proof.Machine

/-- The cycle that ends at a wrap: its number, CL and A (R55, R63). -/
structure Ending where
  cycle : Cycle
  cl : Nat
  a : Int
deriving DecidableEq, Repr

/-- The cycle now running, as the wrap finds it. -/
def ending (s : State) : Ending := { cycle := s.timer.cycle, cl := s.timer.cl, a := adjustment s }

/-- What the sync unit supplies for the new cycle (R56). -/
inductive Adjust where
  /-- No adjustment. -/
  | none
  /-- A correction, already clamped (R72). -/
  | correct (d : Int)
  /-- A step: the adjustment d, and the new cycle's number (R68). -/
  | step (d : Int) (number : Cycle)
deriving DecidableEq, Repr

/-- `x` reduced into one cycle of length `cl`: the integer in [-CL/2, CL/2) that differs from it by whole cycles
(R63). -/
def reduce (x : Int) (cl : Nat) : Int := (x + (cl / 2 : Nat)) % (cl : Int) - (cl / 2 : Nat)

/-- The deviation d of a capture (R63). -/
def deviation (y : SyncSettings) (e : Ending) (c : Capture) : Int :=
  reduce ((c.offset : Int) - ((y.markOffset : Int) + e.a)) e.cl

/-- d clamped to plus or minus SLEW_LIMIT (R57, R67). -/
def clampSlew (y : SyncSettings) (d : Int) : Int := max (-(y.slewLimit : Int)) (min d y.slewLimit)

/-- The capture is a number match (R63). -/
def numberMatch (e : Ending) (c : Capture) : Bool := c.markNumber == e.cycle

/-- The capture is within the window (R63). -/
def withinWindow (y : SyncSettings) (d : Int) : Bool := decide (d.natAbs ≤ y.lockWindow)

/-- The counts on entering ACQUIRE or FREE (R65). -/
def countsZero : SyncCounts := {}

/-- The counts on entering LOCKED (R65). -/
def countsLocked : SyncCounts := { good := 4 }

/-- The outcome of a wrap's evaluation: state, counts, adjustment, counters (R66 to R71). -/
structure Evaluation where
  mode : SyncMode
  counts : SyncCounts
  adjust : Adjust
  counters : SyncCounters
deriving DecidableEq, Repr

/-- The counters with LOCK_LOSSES raised (R65). -/
def lockLost (k : SyncCounters) : SyncCounters := { k with lockLosses := k.lockLosses + 1 }

/-- A wrap in ACQUIRE (R67, R68). -/
def evaluateAcquire (y : Sync) (e : Ending) : Evaluation :=
  match y.capture with
  | some c =>
    let d := deviation y.settings e c
    if numberMatch e c && withinWindow y.settings d then
      if 4 ≤ y.counts.good + 1 then
        { mode := .locked, counts := countsLocked, adjust := .correct (clampSlew y.settings d),
          counters := y.counters }
      else
        { mode := .acquire, counts := { y.counts with good := y.counts.good + 1 },
          adjust := .correct (clampSlew y.settings d), counters := y.counters }
    else
      { mode := .acquire, counts := { y.counts with good := 0 }, adjust := .step d (c.markNumber + 1),
        counters := { y.counters with steps := y.counters.steps + 1 } }
  | none =>
    { mode := .acquire, counts := { y.counts with good := 0 }, adjust := .none, counters := y.counters }

/-- A wrap in LOCKED (R69, R70). -/
def evaluateLocked (y : Sync) (e : Ending) : Evaluation :=
  match y.capture with
  | some c =>
    let d := deviation y.settings e c
    if numberMatch e c then
      if withinWindow y.settings d then
        { mode := .locked, counts := { y.counts with miss := 0, excursion := 0 },
          adjust := .correct (clampSlew y.settings d), counters := y.counters }
      else if y.counts.excursion + 1 < 2 then
        { mode := .locked, counts := { y.counts with miss := 0, excursion := y.counts.excursion + 1 },
          adjust := .correct (clampSlew y.settings d), counters := y.counters }
      else
        { mode := .acquire, counts := countsZero, adjust := .none, counters := lockLost y.counters }
    else
      { mode := .acquire, counts := countsZero, adjust := .none, counters := lockLost y.counters }
  | none =>
    let k := { y.counters with misses := y.counters.misses + 1 }
    if y.settings.missLimit ≤ y.counts.miss + 1 then
      { mode := .holdover, counts := { y.counts with miss := y.counts.miss + 1, holdover := 0 }, adjust := .none,
        counters := k }
    else
      { mode := .locked, counts := { y.counts with miss := y.counts.miss + 1 }, adjust := .none, counters := k }

/-- A wrap in HOLDOVER (R71). -/
def evaluateHoldover (y : Sync) (e : Ending) : Evaluation :=
  match y.capture with
  | some c =>
    let d := deviation y.settings e c
    if numberMatch e c && withinWindow y.settings d then
      { mode := .locked, counts := countsLocked, adjust := .correct (clampSlew y.settings d),
        counters := y.counters }
    else
      { mode := .acquire, counts := countsZero, adjust := .none, counters := lockLost y.counters }
  | none =>
    if y.counts.holdover + 1 < y.settings.holdoverLimit then
      { mode := .holdover, counts := { y.counts with holdover := y.counts.holdover + 1 }, adjust := .none,
        counters := y.counters }
    else
      { mode := .acquire, counts := countsZero, adjust := .none, counters := lockLost y.counters }

/-- The evaluation of the ending cycle's capture under the rule of the state (R62, R66 to R71). -/
def evaluate (y : Sync) (e : Ending) : Evaluation :=
  match y.mode with
  | .free => { mode := .free, counts := y.counts, adjust := .none, counters := y.counters }
  | .acquire => evaluateAcquire y e
  | .locked => evaluateLocked y e
  | .holdover => evaluateHoldover y e

/-- The new cycle's number (R56, R68). -/
def newNumber (e : Ending) (adj : Adjust) : Cycle :=
  match adj with
  | .none => e.cycle + 1
  | .correct _ => e.cycle + 1
  | .step _ n => n

/-- The new cycle's length on the L in force for it; the lower bound acts on steps only (R56, R57). -/
def newLength (l : Nat) (adj : Adjust) : Nat :=
  match adj with
  | .none => l
  | .correct d => ((l : Int) + d).toNat
  | .step d _ => max ((l : Int) + d).toNat (l / 2)

/-- The adjustment-applied and step flags of a trace record (R74). -/
def Adjust.applied : Adjust → Bool
  | .none => false
  | .correct _ => true
  | .step _ _ => true

def Adjust.isStep : Adjust → Bool
  | .none => false
  | .correct _ => false
  | .step _ _ => true

/-- The trace record of a wrap (R74). -/
def traceRecord (y : Sync) (e : Ending) (v : Evaluation) (length : Nat) : TraceRecord :=
  match y.capture with
  | some c =>
    { seq := y.nextSeq, cycle := e.cycle, present := true, double := c.double, step := v.adjust.isStep,
      adjusted := v.adjust.applied, stateAfter := v.mode, captureOffset := c.offset, markNumber := c.markNumber,
      deviation := deviation y.settings e c, nextLength := length }
  | none =>
    { seq := y.nextSeq, cycle := e.cycle, present := false, double := false, step := v.adjust.isStep,
      adjusted := v.adjust.applied, stateAfter := v.mode, captureOffset := 0, markNumber := 0, deviation := 0,
      nextLength := length }

/-- A record is written at the write position, and the ring advances (R74). -/
def writeTrace (r : TraceRecord) (y : Sync) : Sync :=
  { y with ring := y.ring.set y.writePos (some r), writePos := y.writePos + 1, nextSeq := y.nextSeq + 1 }

/-- The sync unit after a wrap: the evaluation's outcome, the trace record written unless the state was FREE, the
capture record emptied (R62, R66, R74). -/
def syncAfterWrap (y : Sync) (e : Ending) (v : Evaluation) (length : Nat) : Sync :=
  let y' := if y.mode = .free then y else writeTrace (traceRecord y e v length) y
  { y' with mode := v.mode, counts := v.counts, counters := v.counters, capture := none }

/-- A change of state is reported with the old and the new state (R65). -/
def reportSync (old : SyncMode) (s : State) : State :=
  if s.sync.mode = old then s else report (.syncState old s.sync.mode) s

end Sys2Proof.Machine
end

