-- ==== Sys2Proof/Machine/Reset.lean ====
section
/-! DEFINITION. Reset.lean: what every block takes when a restart takes effect and when power-on completes (R18, R24,
R34, R54, R59, R79, R103, R126, R141 to R143, R163, R171). -/

namespace Sys2Proof.Machine

/-- A receiver when a restart takes effect: a frame being received is skipped (R18). -/
def restartRx (rx : Receiver) : Receiver :=
  match rx.state with
  | .idle => {}
  | .header => skipping
  | .body => skipping
  | .skip => skipping

/-- A port at a restart: link state kept, counters 0 (R15, R18). -/
def restartPort (x : PortState) : PortState := { link := x.link, rx := restartRx x.rx, counters := {} }

/-- A pool buffer at a restart: FILLING and QUEUED become FREE, SENDING stays (R24). -/
def restartBuffer (b : Buffer) : Buffer :=
  match b.state with
  | .free => {}
  | .filling => {}
  | .queued => {}
  | .sending => b

/-- A stream entry at a restart: a LOCKED one keeps its configuration; queue and counters are emptied (R54). -/
def restartStream (x : Stream) : Stream :=
  if x.locked then { x with queue := [], counters := {} }
  else { x with valid := false, queue := [], counters := {} }

/-- A port D transmission at a restart goes on; a release of an entry that is not LOCKED is detached (R18, R54). -/
def restartTx (s : State) (t : Transmission SourceD) : Transmission SourceD :=
  match t.source with
  | .release b (some i) => if (s.stream i).locked then t else { t with source := .release b none }
  | .release _ none => t
  | .mark => t
  | .pass _ => t

/-- A vector with every element changed. -/
def mapVector {α : Type} {n : Nat} (f : α → α) (v : Vector α n) : Vector α n :=
  ⟨⟨v.toList.map f⟩, by simp⟩

/-- The STARTED record, its cycle fields 0; an unaddressed part appends none (R142, R163). -/
def startedQueue (addressed : Bool) (cause : StartCause) : List NoteRecord :=
  if addressed then [freshRecord (.started cause) 0] else []

/-- The restart takes effect: every block takes its restart values (R141). Node address, link states and a port D
transmission in progress are kept. -/
def restartValues (s : State) : State :=
  { s with
    cyc := true
    win := false
    portU := restartPort s.portU
    portD := restartPort s.portD
    txU := none
    txD := s.txD.map (restartTx s)
    markArea := []
    mgmtArea := []
    pool := mapVector restartBuffer s.pool
    stores := {}
    streams := mapVector restartStream s.streams
    timer := {}
    sync := {}
    engine := {}
    plan := {}
    mgmt := {}
    notes := { queue := startedQueue s.addressed .restart } }

/-- Every block's power-on values, for the strap levels sampled, before the first link reports (R18, R34, R54, R59,
R79, R103, R126, R143, R163, R171, R172). The command queue, which is no part of the device, is kept. -/
def powerOnValues (straps : NodeAddr) (s : State) : State :=
  { nodeAddr := straps
    cyc := true
    notes := { queue := startedQueue (straps != 0 && straps != broadcastAddr) .powerOn }
    pending := s.pending }

end Sys2Proof.Machine
end

