-- ==== Sys2Proof/Machine/Ticks.lean ====
section
/-! DEFINITION. Ticks.lean: what falls at an offset of a cycle: the completions, CYC_FALL, SLOT_TAKE and WINDOW_CLOSE
(R14, R33, R55, R58, R84, R90, R93). TICK and TRANSMISSION_COMPLETE are in Settle.lean. -/

namespace Sys2Proof.Machine

/-! ### Completions (R14) -/

/-- A release completes (R43, R90): its buffer is freed, RELEASED counts if it is attached, and the engine, no release
of the standing window being on the line any more, tests for a request. -/
def releaseCompleted (b : BufId) (attached : Option StreamId) (s : State) : State :=
  let s := freeBuf b s
  let s :=
    match attached with
    | some i => countStream i (fun c => { c with released := c.released + 1 }) s
    | none => s
  raiseRequest { s with engine := { s.engine with window := s.engine.window.map fun w => { w with onLine := false } } }

/-- The source of a port D transmission is told that it has completed (R14, R26, R30, R90). -/
def tellD (src : SourceD) (s : State) : State :=
  match src with
  | .mark => countForward (fun c => { c with marksForwarded := c.marksForwarded + 1 }) s
  | .release b attached => releaseCompleted b attached s
  | .pass b => countForward (fun c => { c with passForwarded := c.passForwarded + 1 }) (freeBuf b s)

/-- A transmission on port D completes: TX_FRAMES, the transmitter IDLE, the source told (R14). -/
def completeD (t : Transmission SourceD) (s : State) : State :=
  tellD t.source (countPort .d (fun c => { c with txFrames := c.txFrames + 1 }) { s with txD := none })

/-- The head record whose transmission completed awaits its acknowledgement; a record removed while SENDING is no
longer there (R159). -/
def noteCompleted (n : Notes) : Notes :=
  match n.queue with
  | r :: rs =>
    if r.state = .sending then { n with queue := { r with state := .awaitingAck, wait := 0 } :: rs } else n
  | [] => n

/-- The unit's state from the room in its outbox (R128). -/
def unitByRoom (m : Mgmt) : UnitMode :=
  if Config.outboxCapacity ≤ m.outbox.length || !m.parts.isEmpty then .stalled else .ready

/-- An outbox entry is freed: the next waiting part is placed, and a STALLED unit with room becomes READY (R33, R128,
R133). -/
def replyFreed (m : Mgmt) : Mgmt :=
  let m := { m with outbox := m.outbox.tail }
  let m :=
    match m.parts with
    | r :: rs => { m with outbox := m.outbox ++ [r], parts := rs }
    | [] => m
  match m.mode with
  | .ready => m
  | .stalled => { m with mode := unitByRoom m }
  | .restarting => m

/-- A reply completes; that of a RESTART makes the restart take effect (R33, R141). -/
def replyCompleted (s : State) : State :=
  match s.mgmt.outbox with
  | r :: _ => if r.ofRestart then restartValues s else { s with mgmt := replyFreed s.mgmt }
  | [] => s

/-- The source of a port U transmission is told that it has completed (R33). -/
def tellU (src : SourceU) (s : State) : State :=
  match src with
  | .back b => countForward (fun c => { c with returnForwarded := c.returnForwarded + 1 }) (freeBuf b s)
  | .reply => replyCompleted s
  | .note => { s with notes := noteCompleted s.notes }

/-- A transmission on port U completes: TX_FRAMES, the transmitter IDLE, the source told (R14, R33). DEDUCED (log
entry 9): a restart zeroes the count just made. -/
def completeU (t : Transmission SourceU) (s : State) : State :=
  tellU t.source (countPort .u (fun c => { c with txFrames := c.txFrames + 1 }) { s with txU := none })

/-- The completion that is due on port D, if any, with its arbiter's decision (R14, R99). -/
def finishD (s : State) : State :=
  match s.txD with
  | some t => if t.remaining = 0 then conclude s (completeD t s) else s
  | none => s

/-- The completion that is due on port U, if any, with its arbiter's decision (R14, R31). -/
def finishU (s : State) : State :=
  match s.txU with
  | some t => if t.remaining = 0 then conclude s (completeU t s) else s
  | none => s

/-! ### The offset -/

/-- The release engine's event at the present offset, if one is due (R84, R87, R93). -/
def finishEngine (s : State) : State :=
  if closeDue s || takeDue s then conclude s (engineEvent s) else s

/-- CYC falls (R58). -/
def dropCyc (s : State) : State := if cycDue s then { s with cyc := false } else s

/-- The clock's events of the present offset that no command has taken yet: they fall at this offset whatever is
commanded (R14, R58, R84, R93). DESIGN CHOICE (log entry 4): in this order; explicit commands give every other. -/
def settleClock (s : State) : State := dropCyc (finishEngine (finishU (finishD s)))

/-- One tick of a transmission's occupancy (R14). -/
def elapse {σ : Type} (t : Option (Transmission σ)) : Option (Transmission σ) :=
  t.map fun x => { x with remaining := x.remaining - 1 }

/-- One tick passes on both transmitters (R14). -/
def elapseBoth (s : State) : State := { s with txU := elapse s.txU, txD := elapse s.txD }

/-- The offset advances by 1 (R55). -/
def advance (s : State) : State :=
  { elapseBoth s with timer := { s.timer with offset := s.timer.offset + 1 } }

/-- The tick that is the wrap comes (R55): it passes on both transmitters, and the wrap itself is still to be taken. What
a transmitter starts now has its whole occupancy before it (R14). DEDUCED (log entry 14). -/
def comeToWrap (s : State) : State := { elapseBoth s with timer := { s.timer with wrapping := true } }

/-! ### The steps -/

/-- CYC_FALL (R58). -/
def execCycFall (s : State) : Host.Outcome State Fault Refusal :=
  .next (if s.power = .running then dropCyc s else s)

/-- SLOT_TAKE (R84 to R87). -/
def execSlotTake (s : State) : Host.Outcome State Fault Refusal :=
  .next (if s.power = .running ∧ takeDue s = true then finishEngine s else s)

/-- WINDOW_CLOSE (R87, R92, R93). -/
def execWindowClose (s : State) : Host.Outcome State Fault Refusal :=
  .next (if s.power = .running ∧ closeDue s = true then finishEngine s else s)

end Sys2Proof.Machine
end

