-- ==== Sys2Proof/Machine/Mgmt.lean ====
section
/-! DEFINITION. Mgmt.lean: how the management unit takes a request, executes, replays or ignores it, and places its
reply (R128 to R137). -/

namespace Sys2Proof.Machine

/-! ### Which step takes the oldest request -/

/-- The step that takes a request (R130, R135 to R137). -/
inductive Row where
  | replay
  | ignore
  | unknown
  | op (o : Op)
deriving DecidableEq, Repr

/-- A request with DEST 127 (R136). -/
def isBroadcast (f : FrameBytes) : Bool := destOf f == broadcastAddr

/-- The four requests that broadcast can execute (R136). -/
def Op.byBroadcast (o : Op) : Bool := o == .switch || o == .withdraw || o == .hold || o == .resume

/-- The request equals the cached one in TAG and payload (R135). -/
def cacheHit (m : Mgmt) (f : FrameBytes) : Bool :=
  match m.cache with
  | some e => e.tag == tagOf f && e.payload == payloadOf f
  | none => false

/-- The step that takes a request from the head of the input queue (R130, R135, R136, R137). -/
def rowOf (m : Mgmt) (f : FrameBytes) : Row :=
  if isBroadcast f then
    match opOf f with
    | some o => if o.byBroadcast then .op o else .ignore
    | none => .ignore
  else if cacheHit m f then .replay
  else
    match opOf f with
    | some o => .op o
    | none => .unknown

/-- The request the unit would take now: the oldest, in READY (R128, R129). -/
def nextRequest (s : State) : Option FrameBytes :=
  if s.power == .running && s.mgmt.mode == .ready then s.mgmt.input.head? else none

/-- The request leaves the input queue and its buffer is freed (R129). -/
def takeHead (s : State) : State := { s with mgmt := { s.mgmt with input := s.mgmt.input.tail } }

/-- The unit takes its oldest request if it is the step's own; the arbiters follow (R32, R100, R129). DESIGN CHOICE
(log entry 2): a step that is not the oldest request's does nothing. -/
def takeRequest (row : Row) (run : FrameBytes → State → State) (s : State) : State :=
  match nextRequest s with
  | some f => if rowOf s.mgmt f = row then conclude s (run f (takeHead s)) else s
  | none => s

/-! ### Answers and replies -/

/-- What the owning rule of a request answers: the state it leaves, the status, and the result of each reply frame
(one, but for the parts of TRACE_READ). -/
structure Answer where
  state : State
  status : Status
  results : List (List Byte)
deriving DecidableEq, Repr

/-- A failing check: no effect, an empty result (R130, R131). -/
def refuse (s : State) (st : Status) : Answer := { state := s, status := st, results := [[]] }

/-- An OK answer in one reply frame (R131). -/
def accept (s : State) (result : List Byte) : Answer := { state := s, status := .ok, results := [result] }

/-- The LENGTH check of R130, then the owning rule. -/
def checked (o : Op) (owner : List Byte → State → Answer) (f : FrameBytes) (s : State) : Answer :=
  if lenOf f = o.len then owner (argsOf f) s else refuse s .length

/-- Reply frames are placed in the outbox as far as it has room; the rest wait in the part store (R132, R133). -/
def placeReplies (rs : List Reply) (m : Mgmt) : Mgmt :=
  { m with
    outbox := m.outbox ++ rs.take (Config.outboxCapacity - m.outbox.length)
    parts := m.parts ++ rs.drop (Config.outboxCapacity - m.outbox.length) }

/-- The unit's state after a placing (R128). -/
def settleUnit (m : Mgmt) : Mgmt := { m with mode := unitByRoom m }

/-- One more execution (R129). -/
def countExecuted (s : State) : State :=
  countMgmt (fun c => { c with requestsExecuted := c.requestsExecuted + 1 }) s

/-- The reply frames of an answer (R131, R133). -/
def replyFrames (node : NodeAddr) (f : FrameBytes) (a : Answer) : List FrameBytes :=
  a.results.map (replyFrame node (tagOf f) (opByte f) a.status)

/-- An addressed request executed: counted, its replies placed and cached, the unit settled (R129, R132, R134). -/
def answerRequest (f : FrameBytes) (a : Answer) : State :=
  let s := countExecuted a.state
  let frames := replyFrames s.nodeAddr f a
  let m := { s.mgmt with cache := some { tag := tagOf f, payload := payloadOf f, replies := frames } }
  { s with mgmt := settleUnit (placeReplies (frames.map fun b => { bytes := b, ofRestart := false }) m) }

/-- A broadcast request executed: no reply, the cache unchanged; a refusal is reported (R136). -/
def answerBroadcast (f : FrameBytes) (a : Answer) : State :=
  let s := countExecuted a.state
  if a.status = .ok then s else report (.broadcastRefused (opByte f) a.status.code) s

/-- A request executed by its owning rule after the common checks (R129, R130, R136). -/
def runOp (o : Op) (owner : List Byte → State → Answer) (f : FrameBytes) (s : State) : State :=
  if isBroadcast f then answerBroadcast f (checked o owner f s) else answerRequest f (checked o owner f s)

/-- The step of a request of the table in R145. -/
def execOp (o : Op) (owner : List Byte → State → Answer) (s : State) : State := takeRequest (.op o) (runOp o owner) s

/-! ### Replay, ignore, unknown -/

/-- The cached reply frames are placed again (R135). -/
def replayRequest (s : State) : State :=
  let s := countMgmt (fun c => { c with replays := c.replays + 1 }) s
  match s.mgmt.cache with
  | some e =>
    { s with mgmt := settleUnit (placeReplies (e.replies.map fun b => { bytes := b, ofRestart := false }) s.mgmt) }
  | none => s

/-- REQUEST_REPLAY (R135). -/
def execRequestReplay (s : State) : Host.Outcome State Fault Refusal :=
  .next (takeRequest .replay (fun _ s => replayRequest s) s)

/-- BROADCAST_IGNORE (R137). -/
def execBroadcastIgnore (s : State) : Host.Outcome State Fault Refusal :=
  .next (takeRequest .ignore
    (fun _ s => countMgmt (fun c => { c with broadcastIgnored := c.broadcastIgnored + 1 }) s) s)

/-- UNKNOWN_REQUEST (R130). -/
def execUnknownRequest (s : State) : Host.Outcome State Fault Refusal :=
  .next (takeRequest .unknown (fun f s => answerRequest f (refuse s .unknown)) s)

end Sys2Proof.Machine
end

