-- ==== Sys2Proof/Machine/PlanRequests.lean ====
section
/-! DEFINITION. PlanRequests.lean: the staged edits, SLOT_READ, SWITCH, WITHDRAW, HOLD and RESUME (R105 to R125). -/

namespace Sys2Proof.Machine

/-! ### Staged edits (R105 to R110) -/

/-- The staged plan and the staged L as an edit leaves them. -/
def setStaged (slots : List Slot) (l : Nat) (s : State) : State :=
  { s with plan := { s.plan with staged := slots, stagedL := l } }

/-- A staged edit is refused with BUSY while a switch is pending (R105). -/
def editing (s : State) (edit : Answer) : Answer := if s.plan.mode.switching then refuse s .busy else edit

/-- The staged slots with an OPEN below, and from, a given one. -/
def slotsBelow (slots : List Slot) (openAt : Nat) : List Slot := slots.takeWhile fun x => decide (x.openAt < openAt)
def slotsFrom (slots : List Slot) (openAt : Nat) : List Slot := slots.dropWhile fun x => decide (x.openAt < openAt)

/-- The new slot would overlap its predecessor or its successor; abutting is allowed (R106, check 5). -/
def overlaps (slots : List Slot) (x : Slot) : Bool :=
  (match (slotsBelow slots x.openAt).getLast? with
   | some p => decide (x.openAt < p.openAt + p.span)
   | none => false) ||
  (match (slotsFrom slots x.openAt).head? with
   | some n => decide (n.openAt < x.openAt + x.span)
   | none => false)

/-- SLOT_ADD's own checks and effect (R106). -/
def slotAddOwner (a : List Byte) (s : State) : Answer :=
  match slotArgs a with
  | some x =>
    editing s <|
      if Config.planCapacity ≤ s.plan.staged.length then refuse s .full
      else if s.plan.staged.any (fun y => y.openAt == x.openAt) then refuse s .duplicate
      else if overlaps s.plan.staged x then refuse s .overlap
      else
        let below := slotsBelow s.plan.staged x.openAt
        accept (setStaged (below ++ x :: slotsFrom s.plan.staged x.openAt) s.plan.stagedL s)
          [BitVec.ofNat 8 below.length]
  | none => refuse s .arg

/-- SLOT_DROP's own checks and effect (R107). -/
def slotDropOwner (a : List Byte) (s : State) : Answer :=
  if 1999999 < arg a 0 4 then refuse s .arg
  else
    editing s <|
      match s.plan.staged.findIdx? fun x => x.openAt == arg a 0 4 with
      | some pos => accept (setStaged (s.plan.staged.eraseIdx pos) s.plan.stagedL s) [BitVec.ofNat 8 pos]
      | none => refuse s .absent

/-- STAGE_EMPTY's own checks and effect (R108). -/
def stageEmptyOwner (_a : List Byte) (s : State) : Answer :=
  editing s (accept (setStaged [] s.plan.stagedL s) [BitVec.ofNat 8 s.plan.staged.length])

/-- STAGE_FROM_ACTIVE's own checks and effect (R109). -/
def stageFromActiveOwner (_a : List Byte) (s : State) : Answer :=
  editing s (accept (setStaged (s.plan.active.map ActiveSlot.slot) s.plan.activeL s)
    [BitVec.ofNat 8 s.plan.active.length])

/-- CYCLE_STAGE's own checks and effect (R110). -/
def cycleStageOwner (a : List Byte) (s : State) : Answer :=
  if arg a 0 4 < 2500 ∨ 2000000 < arg a 0 4 then refuse s .arg
  else editing s (accept (setStaged s.plan.staged (arg a 0 4) s) [])

/-! ### SLOT_READ (R111) -/

/-- The slot at a position of the named plan, 0 STAGED, 1 ACTIVE, with its SPENT mark (R111). -/
def slotAt (p : Plan) (plan pos : Nat) : Option (Slot × Bool) :=
  if plan = 0 then p.staged[pos]?.map fun x => (x, false)
  else p.active[pos]?.map fun x => (x.slot, x.spent)

/-- SLOT_READ's own checks and answer; ABSENT still carries the plan status (R111, R131). -/
def slotReadOwner (a : List Byte) (s : State) : Answer :=
  if 1 < arg a 0 1 ∨ 63 < arg a 1 1 then refuse s .arg
  else
    match slotAt s.plan (arg a 0 1) (arg a 1 1) with
    | some (x, spent) => accept s (planStatusBytes s.plan ++ slotBytes x spent)
    | none => { state := s, status := .absent, results := [planStatusBytes s.plan ++ noSlotBytes] }

/-! ### SWITCH and WITHDRAW (R113 to R115, R120) -/

/-- The first condition of R114 that a staged slot meets. -/
def slotFault (s : State) (x : Slot) : Option Reason :=
  if !(s.stream x.stream).valid then some .dangling
  else if s.plan.stagedL < x.openAt + x.span then some .beyond
  else if s.sync.settings.enable && decide (s.plan.stagedL < x.openAt + x.span + s.sync.settings.slewLimit) then
    some .tail
  else none

/-- The verification of the staged plan: the reason and OPEN of the first slot that fails (R114). -/
def verifyPlan (s : State) : Option (Reason × Nat) :=
  s.plan.staged.findSome? fun x => (slotFault s x).map fun r => (r, x.openAt)

/-- The target SWITCH carries, or none where ARG is the answer (R113, check 1). -/
def switchTarget (a : List Byte) (now : Cycle) : Option Target :=
  match arg a 0 1 with
  | 0 => some .next
  | 1 =>
    let n : Cycle := BitVec.ofNat 32 (arg a 1 4)
    if 1 ≤ (n - now).toNat ∧ (n - now).toNat ≤ 65535 then some (.atCycle n) else none
  | _ => none

/-- SWITCH's own checks and effect (R113 to R115). -/
def switchOwner (a : List Byte) (s : State) : Answer :=
  match switchTarget a s.timer.cycle with
  | some t =>
    match s.plan.mode with
    | .held => refuse s .state
    | .heldPending => refuse s .state
    | .pending => refuse s .busy
    | .steady =>
      match verifyPlan s with
      | some (r, openAt) => { state := s, status := .verify, results := [verifyResult r openAt] }
      | none =>
        accept { s with plan := { s.plan with mode := .pending, target := t } } (bytesBE 4 s.timer.cycle.toNat)
  | none => refuse s .arg

/-- The effect of a WITHDRAW (R120). -/
def withdrawSwitch (s : State) : State :=
  countPlan (fun c => { c with switchesWithdrawn := c.switchesWithdrawn + 1 })
    { s with plan := { s.plan with mode := s.plan.mode.withSwitch false, target := .none } }

/-- WITHDRAW's own check and effect (R120). -/
def withdrawOwner (_a : List Byte) (s : State) : Answer :=
  if s.plan.mode.switching then
    accept (withdrawSwitch s) (s.plan.target.switchCode :: bytesBE 4 s.plan.target.cycle.toNat)
  else refuse s .state

/-! ### HOLD and RESUME (R121, R122) -/

/-- The effect of a HOLD: the gate shuts, and a window that stands is ended (R96, R121). -/
def beginHold (limit : Nat) (s : State) : State :=
  let s' := countPlan (fun c => { c with holds := c.holds + 1 })
    { s with plan := { s.plan with mode := s.plan.mode.withHold true, holdLimit := limit, holdCount := 0 } }
  gateEnds s s'

/-- HOLD's own checks and effect (R121). -/
def holdOwner (a : List Byte) (s : State) : Answer :=
  if s.plan.mode.holds then refuse s .state
  else if s.plan.resumeGuard < Config.resumeGuardFull then refuse s .tooSoon
  else accept (beginHold (arg a 0 1) s) []

/-- The effect of a RESUME: the offset at which it is taken is the resume offset (R97, R122). -/
def endHold (s : State) : State :=
  { s with
    plan := { s.plan with mode := s.plan.mode.withHold false, holdLimit := 0, holdCount := 0, resumeGuard := 0 }
    engine := { s.engine with resumeOffset := some s.timer.offset } }

/-- RESUME's own check and effect (R122). -/
def resumeOwner (_a : List Byte) (s : State) : Answer :=
  if s.plan.mode.holds then
    accept (endHold s) (bytesBE 4 s.timer.cycle.toNat ++ bytesBE 4 s.timer.offset)
  else refuse s .state

/-! ### The steps -/

/-- SLOT_ADD (R106). -/
def execSlotAdd (s : State) : Host.Outcome State Fault Refusal := .next (execOp .slotAdd slotAddOwner s)

/-- SLOT_DROP (R107). -/
def execSlotDrop (s : State) : Host.Outcome State Fault Refusal := .next (execOp .slotDrop slotDropOwner s)

/-- SLOT_READ (R111). -/
def execSlotRead (s : State) : Host.Outcome State Fault Refusal := .next (execOp .slotRead slotReadOwner s)

/-- STAGE_EMPTY (R108). -/
def execStageEmpty (s : State) : Host.Outcome State Fault Refusal := .next (execOp .stageEmpty stageEmptyOwner s)

/-- STAGE_FROM_ACTIVE (R109). -/
def execStageFromActive (s : State) : Host.Outcome State Fault Refusal :=
  .next (execOp .stageFromActive stageFromActiveOwner s)

/-- CYCLE_STAGE (R110). -/
def execCycleStage (s : State) : Host.Outcome State Fault Refusal := .next (execOp .cycleStage cycleStageOwner s)

/-- SWITCH (R113). -/
def execSwitch (s : State) : Host.Outcome State Fault Refusal := .next (execOp .switch switchOwner s)

/-- WITHDRAW (R120). -/
def execWithdraw (s : State) : Host.Outcome State Fault Refusal := .next (execOp .withdraw withdrawOwner s)

/-- HOLD (R121). -/
def execHold (s : State) : Host.Outcome State Fault Refusal := .next (execOp .hold holdOwner s)

/-- RESUME (R122). -/
def execResume (s : State) : Host.Outcome State Fault Refusal := .next (execOp .resume resumeOwner s)

end Sys2Proof.Machine
end

