-- ==== Sys2Proof/Machine/StreamRequests.lean ====
section
/-! DEFINITION. StreamRequests.lean: STREAM_WRITE, STREAM_DELETE, STREAM_LOCK, STREAM_READ and STREAM_PURGE (R46 to
R52). -/

namespace Sys2Proof.Machine

/-- Another valid entry has the TAG (R46, check 3). -/
def tagTaken (s : State) (i : StreamId) (t : Tag) : Bool :=
  (List.finRange 32).any fun j => j != i && (s.stream j).valid && (s.stream j).tag == t

/-- A write to a valid entry whose queue forbids it (R46, check 4). -/
def writeNeedsEmpty (x : Stream) (w : StreamWriteArgs) : Bool :=
  x.valid && ((x.tag != w.tag && !x.queue.isEmpty) || decide (w.depth < x.queue.length))

/-- The entry after a write (R46): a valid entry keeps its queue and counters, an invalid one starts anew. -/
def writtenStream (x : Stream) (w : StreamWriteArgs) : Stream :=
  if x.valid then
    { x with tag := w.tag, depth := w.depth, policy := w.policy, ageLimit := w.ageLimit }
  else
    { valid := true, tag := w.tag, depth := w.depth, policy := w.policy, ageLimit := w.ageLimit }

/-- STREAM_WRITE's own checks and effect (R46). -/
def streamWriteOwner (a : List Byte) (s : State) : Answer :=
  match streamWriteArgs a with
  | some w =>
    if (s.stream w.index).locked then refuse s .locked
    else if tagTaken s w.index w.tag then refuse s .duplicate
    else if writeNeedsEmpty (s.stream w.index) w then refuse s .notEmpty
    else accept (setStream w.index (writtenStream (s.stream w.index) w) s) []
  | none => refuse s .arg

/-- The entry is named by the active plan, or by the staged plan while a switch is pending (R47, check 4). -/
def streamInUse (i : StreamId) (p : Plan) : Bool :=
  p.active.any (fun x => x.slot.stream == i) || (p.mode.switching && p.staged.any fun x => x.stream == i)

/-- The effect of a deletion (R47). -/
def deleteStream (i : StreamId) (s : State) : State :=
  let s := purgeQueue i s
  detach i (setStream i { s.stream i with valid := false, counters := {} } s)

/-- The index argument, in range (R145). -/
def indexArg (a : List Byte) : Option StreamId := streamIdOf (arg a 0 1)

/-- STREAM_DELETE's own checks and effect (R47). -/
def streamDeleteOwner (a : List Byte) (s : State) : Answer :=
  match indexArg a with
  | some i =>
    if !(s.stream i).valid then refuse s .absent
    else if (s.stream i).locked then refuse s .locked
    else if streamInUse i s.plan then refuse s .inUse
    else accept (deleteStream i s) [BitVec.ofNat 8 (s.stream i).queue.length]
  | none => refuse s .arg

/-- STREAM_LOCK's own checks and effect (R48). -/
def streamLockOwner (a : List Byte) (s : State) : Answer :=
  match indexArg a with
  | some i =>
    if !(s.stream i).valid then refuse s .absent
    else accept (setStream i { s.stream i with locked := true } s) []
  | none => refuse s .arg

/-- The head record in STREAM_READ's result; with an empty queue the flag is clear and the fields are 0 (R50). -/
def headBytes : List Held → List Byte
  | h :: _ => [flagByte true] ++ bytesBE 4 h.arrivalCycle.toNat ++ bytesBE 4 h.arrivalOffset ++ [BitVec.ofNat 8 h.age]
  | [] => List.replicate 10 0

/-- STREAM_READ's result (R50, R145). -/
def streamBytes (x : Stream) : List Byte :=
  bytesBE 2 x.tag.toNat ++
    [BitVec.ofNat 8 x.depth, x.policy.code, BitVec.ofNat 8 x.ageLimit, flagByte x.locked,
     BitVec.ofNat 8 x.queue.length] ++
    countBytes x.counters.list ++ headBytes x.queue

/-- STREAM_READ's own checks and answer (R50, R51). -/
def streamReadOwner (a : List Byte) (s : State) : Answer :=
  match indexArg a with
  | some i => if !(s.stream i).valid then refuse s .absent else accept s (streamBytes (s.stream i))
  | none => refuse s .arg

/-- STREAM_PURGE's own checks and effect (R52). -/
def streamPurgeOwner (a : List Byte) (s : State) : Answer :=
  match indexArg a with
  | some i =>
    if !(s.stream i).valid then refuse s .absent
    else accept (purgeQueue i s) [BitVec.ofNat 8 (s.stream i).queue.length]
  | none => refuse s .arg

/-- STREAM_WRITE (R46). -/
def execStreamWrite (s : State) : Host.Outcome State Fault Refusal :=
  .next (execOp .streamWrite streamWriteOwner s)

/-- STREAM_DELETE (R47). -/
def execStreamDelete (s : State) : Host.Outcome State Fault Refusal :=
  .next (execOp .streamDelete streamDeleteOwner s)

/-- STREAM_LOCK (R48). -/
def execStreamLock (s : State) : Host.Outcome State Fault Refusal :=
  .next (execOp .streamLock streamLockOwner s)

/-- STREAM_READ (R50). -/
def execStreamRead (s : State) : Host.Outcome State Fault Refusal :=
  .next (execOp .streamRead streamReadOwner s)

/-- STREAM_PURGE (R52). -/
def execStreamPurge (s : State) : Host.Outcome State Fault Refusal :=
  .next (execOp .streamPurge streamPurgeOwner s)

end Sys2Proof.Machine
end

