-- ==== Sys2Proof/Machine/UnitRequests.lean ====
section
/-! DEFINITION. UnitRequests.lean: IDENT, the sync requests, COUNT_READ, the note requests, PASS_CONFIG and RESTART
(R75 to R78, R138 to R140, R152, R161, R166, R167). -/

namespace Sys2Proof.Machine

/-! ### IDENT and PASS_CONFIG (R138, R139) -/

/-- The number of valid stream entries (R35). -/
def validStreams (s : State) : Nat := (s.streams.toList.filter Stream.valid).length

/-- IDENT's result (R138, R145). -/
def identBytes (s : State) : List Byte :=
  bytesBE 2 Config.vendorCode.toNat ++ bytesBE 2 Config.partCode.toNat ++
    [Config.revision, s.nodeAddr.zeroExtend 8, s.plan.mode.code, s.sync.mode.code, BitVec.ofNat 8 (validStreams s),
     BitVec.ofNat 8 s.plan.active.length, BitVec.ofNat 8 s.plan.staged.length, BitVec.ofNat 8 (freeCount s)] ++
    bytesBE 4 s.timer.cycle.toNat ++ [BitVec.ofNat 8 s.notes.queue.length]

/-- IDENT's answer (R138). -/
def identOwner (_a : List Byte) (s : State) : Answer := accept s (identBytes s)

/-- PASS_CONFIG's own check and effect (R139). -/
def passConfigOwner (a : List Byte) (s : State) : Answer :=
  match unmatchedOf (arg a 0 1) with
  | some u =>
    if arg a 1 2 ≤ 1023 then
      accept { s with mgmt := { s.mgmt with unmatched := u, guardMargin := arg a 1 2 } } []
    else refuse s .arg
  | none => refuse s .arg

/-! ### Sync requests (R75 to R78) -/

/-- The sync state after a SYNC_CONFIG (R77). -/
def configuredMode (m : SyncMode) (enable : Bool) (a : Int) (slew : Nat) : SyncMode :=
  match enable, m with
  | false, _ => .free
  | true, .free => .acquire
  | true, .acquire => .acquire
  | true, .locked => if slew < a.natAbs then .acquire else .locked
  | true, .holdover => .holdover

/-- The sync unit after a SYNC_CONFIG: settings, state, counts on entering a state, LOCK_LOSSES (R65, R77). -/
def configuredSync (y : Sync) (n : SyncSettings) (a : Int) : Sync :=
  let m := configuredMode y.mode n.enable a n.slewLimit
  let y' := { y with settings := n, mode := m }
  if m = y.mode then y'
  else if m = .acquire ∧ y.mode ≠ .free then { y' with counts := countsZero, counters := lockLost y.counters }
  else { y' with counts := countsZero }

/-- The OPEN of the first active slot that the shortest LOCKED cycle would cut (R76, check 3). -/
def tailFault (p : Plan) (n : SyncSettings) : Option Nat :=
  if n.enable then
    (p.active.find? fun x => decide (p.activeL < x.slot.openAt + x.slot.span + n.slewLimit)).map
      fun x => x.slot.openAt
  else none

/-- SYNC_CONFIG's own checks and effect (R76, R77): the settings replaced, the state changed and reported, a standing
window ended where sync-closed shuts the gate (R73, R96). -/
def syncConfigOwner (a : List Byte) (s : State) : Answer :=
  match syncArgs a with
  | some n =>
    if s.plan.mode.switching then refuse s .busy
    else
      match tailFault s.plan n with
      | some openAt => { state := s, status := .verify, results := [verifyResult .tail openAt] }
      | none =>
        let s' := { s with sync := configuredSync s.sync n (adjustment s) }
        accept (gateEnds s (reportSync s.sync.mode s')) []
  | none => refuse s .arg

/-- The capture record in SYNC_READ's result; its fields are 0 when no capture is present (R78). -/
def captureBytes : Option Capture → List Byte
  | some c =>
    [flagByte true] ++ bytesBE 4 c.offset ++ bytesBE 4 c.localCycle.toNat ++ bytesBE 4 c.markNumber.toNat ++
      [flagByte c.double]
  | none => List.replicate 14 0

/-- SYNC_READ's result (R78, R145). -/
def syncBytes (s : State) : List Byte :=
  [s.sync.mode.code, BitVec.ofNat 8 s.sync.counts.good, BitVec.ofNat 8 s.sync.counts.miss,
   BitVec.ofNat 8 s.sync.counts.excursion, BitVec.ofNat 8 s.sync.counts.holdover] ++
    bytesBE 4 s.timer.cycle.toNat ++ bytesBE 4 s.timer.offset ++ bytesBE 4 s.timer.cl ++ captureBytes s.sync.capture

/-- SYNC_READ's answer (R78). -/
def syncReadOwner (_a : List Byte) (s : State) : Answer := accept s (syncBytes s)

/-- `count` entries of the ring from a start position, position 31 followed by position 0 (R75). -/
def traceRun (y : Sync) (start count : Nat) : List (Option TraceRecord) :=
  (List.range count).map fun k => y.ring[(start + k) % 32]'(Nat.mod_lt _ (by decide))

/-- A run of entries cut into parts of two, the last of one when the run is odd (R133). -/
def inPairs {α : Type} : List α → List (List α)
  | [] => []
  | [x] => [[x]]
  | x :: y :: rest => [x, y] :: inPairs rest

/-- The results of a TRACE_READ, one for each part: part index, parts, next SEQ, entries (R133, R145). -/
def traceParts (y : Sync) (start count : Nat) : List (List Byte) :=
  let parts := inPairs (traceRun y start count)
  parts.mapIdx fun k es =>
    [BitVec.ofNat 8 k, BitVec.ofNat 8 parts.length] ++ bytesBE 2 y.nextSeq.toNat ++ es.flatMap traceBytes

/-- TRACE_READ's own check and answer (R75). -/
def traceReadOwner (a : List Byte) (s : State) : Answer :=
  if 31 < arg a 0 1 ∨ arg a 1 1 < 1 ∨ 8 < arg a 1 1 then refuse s .arg
  else { state := s, status := .ok, results := traceParts s.sync (arg a 0 1) (arg a 1 1) }

/-! ### COUNT_READ (R166, R167) -/

/-- The group exists: a STREAM group does while its entry is valid (R166, R170). -/
def groupExists (s : State) : Group → Bool
  | .port _ => true
  | .forward => true
  | .sync => true
  | .plan => true
  | .mgmt => true
  | .notes => true
  | .stream i => (s.stream i).valid

/-- COUNT_READ's own checks, snapshot and zeroing (R166, R167). -/
def countReadOwner (a : List Byte) (s : State) : Answer :=
  match Group.ofCode (arg a 0 1) with
  | some g =>
    if groupExists s g then
      accept (zeroGroup g s) (BitVec.ofNat 8 (arg a 0 1) :: countBytes (groupList s g))
    else refuse s .absent
  | none => refuse s .arg

/-! ### Note requests (R152, R161) -/

/-- NOTE_ACK's own check and effect (R161). -/
def noteAckOwner (a : List Byte) (s : State) : Answer :=
  let q : BitVec 8 := BitVec.ofNat 8 (arg a 0 1)
  if s.notes.queue.any fun r => r.seq == some q then
    accept { s with notes := ackLeaves q s.timer.cycle s.notes } []
  else refuse s .absent

/-- NOTE_CONFIG's own check and effect (R152). -/
def noteConfigOwner (a : List Byte) (s : State) : Answer :=
  if 4096 ≤ arg a 0 2 ∨ arg a 2 1 < 1 ∨ 64 < arg a 2 1 then refuse s .arg
  else accept { s with notes := { s.notes with mask := BitVec.ofNat 12 (arg a 0 2), retry := arg a 2 1 } } []

/-! ### RESTART (R140) -/

/-- The OK reply to a RESTART is placed, and the unit enters RESTARTING (R140). -/
def beginRestart (f : FrameBytes) (s : State) : State :=
  let s := countExecuted s
  let b := replyFrame s.nodeAddr (tagOf f) (opByte f) .ok []
  let m := { s.mgmt with cache := some { tag := tagOf f, payload := payloadOf f, replies := [b] } }
  { s with mgmt := { placeReplies [{ bytes := b, ofRestart := true }] m with mode := .restarting } }

/-- A RESTART taken: the common checks, and no checks of its own (R140). -/
def runRestart (f : FrameBytes) (s : State) : State :=
  if lenOf f = Op.restart.len then beginRestart f s else answerRequest f (refuse s .length)

/-! ### The steps -/

/-- IDENT (R138). -/
def execIdent (s : State) : Host.Outcome State Fault Refusal := .next (execOp .ident identOwner s)

/-- SYNC_CONFIG (R76, R77). -/
def execSyncConfig (s : State) : Host.Outcome State Fault Refusal := .next (execOp .syncConfig syncConfigOwner s)

/-- SYNC_READ (R78). -/
def execSyncRead (s : State) : Host.Outcome State Fault Refusal := .next (execOp .syncRead syncReadOwner s)

/-- TRACE_READ (R75, R133). -/
def execTraceRead (s : State) : Host.Outcome State Fault Refusal := .next (execOp .traceRead traceReadOwner s)

/-- COUNT_READ (R166, R167). -/
def execCountRead (s : State) : Host.Outcome State Fault Refusal := .next (execOp .countRead countReadOwner s)

/-- NOTE_ACK (R161). -/
def execNoteAck (s : State) : Host.Outcome State Fault Refusal := .next (execOp .noteAck noteAckOwner s)

/-- NOTE_CONFIG (R152). -/
def execNoteConfig (s : State) : Host.Outcome State Fault Refusal := .next (execOp .noteConfig noteConfigOwner s)

/-- PASS_CONFIG (R139). -/
def execPassConfig (s : State) : Host.Outcome State Fault Refusal := .next (execOp .passConfig passConfigOwner s)

/-- RESTART (R140). -/
def execRestart (s : State) : Host.Outcome State Fault Refusal := .next (takeRequest (.op .restart) runRestart s)

end Sys2Proof.Machine
end

