-- ==== Sys2Proof/Machine/Settle.lean ====
section
/-! DEFINITION. Settle.lean: the requests the management unit takes by itself, what comes before a tick, and the steps
TICK, within a cycle and during power-on, and TRANSMISSION_COMPLETE (R14, R55, R129, R172). -/

namespace Sys2Proof.Machine

/-! ### The requests that wait (R129) -/

/-- The state a meaning leaves. -/
def landed (s : State) : Host.Outcome State Fault Refusal → State
  | .next t => t
  | .fault _ => s
  | .refused _ => s

/-- A request of the table in R145 is taken by its own step. -/
def takeOp (o : Op) (s : State) : State :=
  landed s <|
    match o with
    | .ident => execIdent s
    | .streamWrite => execStreamWrite s
    | .streamDelete => execStreamDelete s
    | .streamLock => execStreamLock s
    | .streamRead => execStreamRead s
    | .streamPurge => execStreamPurge s
    | .slotAdd => execSlotAdd s
    | .slotDrop => execSlotDrop s
    | .slotRead => execSlotRead s
    | .stageEmpty => execStageEmpty s
    | .stageFromActive => execStageFromActive s
    | .cycleStage => execCycleStage s
    | .switch => execSwitch s
    | .withdraw => execWithdraw s
    | .hold => execHold s
    | .resume => execResume s
    | .syncConfig => execSyncConfig s
    | .syncRead => execSyncRead s
    | .traceRead => execTraceRead s
    | .countRead => execCountRead s
    | .noteAck => execNoteAck s
    | .noteConfig => execNoteConfig s
    | .passConfig => execPassConfig s
    | .restart => execRestart s

/-- The unit takes its oldest request, in READY with the queue non-empty, by the step that is the request's own
(R129). -/
def takeOldest (s : State) : State :=
  match nextRequest s with
  | some f =>
    match rowOf s.mgmt f with
    | .replay => landed s (execRequestReplay s)
    | .ignore => landed s (execBroadcastIgnore s)
    | .unknown => landed s (execUnknownRequest s)
    | .op o => takeOp o s
  | none => s

/-- The unit takes requests while it is READY with requests waiting, at most `n` (R129). -/
def takeUpTo : Nat → State → State
  | 0, s => s
  | n + 1, s => takeUpTo n (takeOldest s)

/-- The unit takes all it can: each taking removes one request, so that no more than those now waiting are taken
(R129). -/
def takeWaiting (s : State) : State := takeUpTo s.mgmt.input.length s

/-- All that is due at the present offset and that no command has taken yet: the clock's events, and the requests that
a READY unit finds waiting, so that no tick passes over them (R129). DESIGN CHOICE (log entry 4): in this order;
explicit commands give every other. -/
def settle (s : State) : State := takeWaiting (settleClock s)

/-! ### TICK -/

/-- A tick: the offset advances, or it is the tick that is the wrap (R55). After that tick none comes before the wrap is
taken. -/
def tickEvent (s : State) : State :=
  if s.timer.wrapping then s
  else
    let s' := settle s
    if wrapDue s' then comeToWrap s' else advance s'

/-- The two events of R172 from whose later one the 4,096 ticks count: supplies and REFCLK are good, and RESET# was
sampled high at two consecutive ticks. -/
def Conditions.good (c : Conditions) : Bool := c.supplies && c.refclk && decide (2 ≤ c.highSamples)

/-- A tick of power-on (R172): there is none while REFCLK is not running; it counts once the conditions are good, and
samples RESET# until they are. -/
def Conditions.tick (c : Conditions) : Conditions :=
  if !c.refclk then c
  else if c.good then { c with elapsed := min Config.powerOnTicks (c.elapsed + 1) }
  else { c with highSamples := if c.resetHigh then min 2 (c.highSamples + 1) else 0, elapsed := 0 }

/-- TICK (R55), or a tick of power-on (R172). -/
def execTick (s : State) : Host.Outcome State Fault Refusal :=
  .next (match s.power with
    | .running => tickEvent s
    | .poweringOn => { s with conditions := s.conditions.tick })

/-! ### TRANSMISSION_COMPLETE -/

/-- The ticks of occupancy left on a port's transmitter, if it is BUSY (R14). -/
def ticksLeft (p : Port) (s : State) : Option Nat :=
  match p with
  | .u => s.txU.map Transmission.remaining
  | .d => s.txD.map Transmission.remaining

/-- The completion that is due on a port, if any (R14). -/
def finishPort (p : Port) (s : State) : State :=
  match p with
  | .u => finishU s
  | .d => finishD s

/-- The occupancy ends with the tick that is the wrap, which has not come yet, so that the completion falls together with
the wrap and may be taken before it (R45, R159). DEDUCED (log entry 14). -/
def endsWithWrap (p : Port) (s : State) : Bool := !s.timer.wrapping && wrapDue s && ticksLeft p s == some 1

/-- A completion taken before the wrap it falls together with: that tick comes, after all that is due at the last offset,
and then the completion. Where a restart cuts the cycle off there (R59), the completion does not fall together with a
wrap, and nothing happens. -/
def finishWithWrap (p : Port) (s : State) : State :=
  let s' := tickEvent s
  if s'.timer.wrapping then finishPort p s' else s

/-- TRANSMISSION_COMPLETE (R14, R33): a completion that is due, or one that falls together with the wrap. -/
def execTransmissionComplete (p : Port) (s : State) : Host.Outcome State Fault Refusal :=
  .next (if s.power = .running then
    if endsWithWrap p s then finishWithWrap p s else finishPort p s
  else s)

end Sys2Proof.Machine
end

