-- ==== Sys2Proof/Machine/Power.lean ====
section
/-! DEFINITION. Power.lean: the steps POWER_ON and POWER_ON_COMPLETE (R18, R172). The ticks between them are TICK's
(Settle.lean). -/

namespace Sys2Proof.Machine

/-! ### POWER_ON -/

/-- A port as power-on begins: a frame being received is abandoned without a count (R18). -/
def stopPort (x : PortState) : PortState := { x with rx := {} }

/-- Power-on is in progress under the conditions `c`: reception and transmission stop where they stand, a pending
restart is abandoned, CYC and WIN are low (R18, R58, R98, R140, R172). What the other blocks hold has no effect until
power-on completes and gives every block its power-on values. DESIGN CHOICE (log entry 8). -/
def beginPowerOn (c : Conditions) (s : State) : State :=
  { s with
    power := .poweringOn
    conditions := c
    cyc := false
    win := false
    portU := stopPort s.portU
    portD := stopPort s.portD
    txU := none
    txD := none
    mgmt := if s.mgmt.mode = .restarting then { s.mgmt with mode := .ready } else s.mgmt }

/-- The conditions after a low of RESET# at a tick where it is not taken as low: while its two consecutive high samples
are still being counted, the count begins again; else nothing (R172). -/
def Conditions.glitch (c : Conditions) : Conditions := if c.highSamples < 2 then { c with highSamples := 0 } else c

/-- A condition of power-on that ends, or a low of RESET# of one tick, changes the conditions of a power-on in progress
and nothing of a part that runs (R172). -/
def changeConditions (c : Conditions) (s : State) : State :=
  match s.power with
  | .running => s
  | .poweringOn => { s with conditions := c }

/-- POWER_ON (R172): a supply out of range, REFCLK not running, or RESET# low at two consecutive ticks begins power-on,
at any time and again if it is in progress; the ends of these conditions are kept for the count of its ticks. -/
def execPowerOn (cause : PowerCause) (s : State) : Host.Outcome State Fault Refusal :=
  let c := s.conditions
  .next (match cause with
    | .supplyDrop => beginPowerOn { c with supplies := false, elapsed := 0 } s
    | .refclkStop => beginPowerOn { c with refclk := false, elapsed := 0 } s
    | .resetLow samples =>
      if 2 ≤ samples then beginPowerOn { c with resetHigh := false, highSamples := 0, elapsed := 0 } s
      else if samples = 1 then changeConditions c.glitch s
      else s
    | .suppliesGood => changeConditions { c with supplies := true } s
    | .refclkRuns => changeConditions { c with refclk := true } s
    | .resetHigh => changeConditions { c with resetHigh := true } s)

/-! ### POWER_ON_COMPLETE -/

/-- The first reports of the two line interfaces, in either order (R15). -/
def firstReports (linkU linkD : Link) (dFirst : Bool) (s : State) : State :=
  if dFirst then linkReport .u linkU (linkReport .d linkD s)
  else linkReport .d linkD (linkReport .u linkU s)

/-- Power-on completes at this tick: the conditions are good, and 4,096 ticks have passed since the later of the two
events of R172. -/
def powerOnDue (s : State) : Bool :=
  s.power == .poweringOn && s.conditions.good && s.conditions.elapsed == Config.powerOnTicks

/-- POWER_ON_COMPLETE (R172): after 4,096 ticks, as the part has counted them and the command names them, every block
takes its power-on values for the straps sampled, and the framers take the first link reports. -/
def execPowerOnComplete (goodTicks : Nat) (straps : NodeAddr) (linkU linkD : Link) (dFirst : Bool) (s : State) :
    Host.Outcome State Fault Refusal :=
  .next (if powerOnDue s && goodTicks == s.conditions.elapsed then
    firstReports linkU linkD dFirst (powerOnValues straps s)
  else s)

end Sys2Proof.Machine
end

