-- ==== Sys2Proof/Machine/Wrap.lean ====
section
/-! DEFINITION. Wrap.lean: the wrap, each block's action at it, and the steps WRAP, MISS_LIMIT_REACHED,
HOLDOVER_LIMIT_REACHED, STALE_REMOVAL, HOLD_EXPIRY and NOTE_TIMEOUT (R56, R70, R71, R44, R124, R160).

A wrap is one event in which every block acts (R56). The five steps after WRAP are that same event where a block
reaches a limit at it. -/

namespace Sys2Proof.Machine

/-- What the cycle timer, the sync unit and plan control settle for a wrap before the blocks act (R56, R116). -/
structure WrapPlan where
  ending : Ending
  evaluation : Evaluation
  number : Cycle
  switches : Bool
  length : Nat
deriving DecidableEq, Repr

/-- The values of the wrap that ends the cycle now running (R56, R57, R116, R117). -/
def wrapPlan (s : State) : WrapPlan :=
  let e := ending s
  let v := evaluate s.sync e
  let n := newNumber e v.adjust
  let sw := s.plan.mode == .pending && meetsTarget s.plan.target n
  { ending := e, evaluation := v, number := n, switches := sw,
    length := newLength (if sw then s.plan.stagedL else s.plan.activeL) v.adjust }

/-- The sync unit's action (R62 to R74): the evaluation's outcome, the SYNC_STATE report, and the end of a standing
window where sync-closed shuts the gate (R96). -/
def syncAct (k : WrapPlan) (s : State) : State :=
  let s' := { s with sync := syncAfterWrap s.sync k.ending k.evaluation k.length }
  gateEnds s (reportSync s.sync.mode s')

/-- A switch takes effect: state, target, count, note (R117). The copy of the staged plan is `copyPlan`. -/
def takeSwitch (k : WrapPlan) (s : State) : State :=
  let s := countPlan (fun c => { c with switchesDone := c.switchesDone + 1 })
    { s with plan := { s.plan with mode := .steady, target := .none } }
  report (.switchDone k.number) s

/-- A hold expires: resume offset 0 (R124, R97). -/
def expireHold (s : State) : State :=
  let p := { s.plan with mode := s.plan.mode.withHold false, holdLimit := 0, holdCount := 0, resumeGuard := 0 }
  let s := countPlan (fun c => { c with holdExpiries := c.holdExpiries + 1 })
    { s with plan := p, engine := { s.engine with resumeOffset := some 0 } }
  report .holdExpired s

/-- The hold count would reach its limit at a wrap (R124). -/
def holdExpires (p : Plan) : Bool :=
  p.mode.holds && p.holdLimit != 0 && p.holdCount + 1 == p.holdLimit

/-- The hold count after a wrap at which the hold does not expire (R124). -/
def countHold (p : Plan) : Plan :=
  if p.mode.holds && p.holdLimit != 0 then { p with holdCount := p.holdCount + 1 } else p

/-- The resume-guard count after a wrap other than an expiry: it stops at 2 (R125). -/
def countGuard (p : Plan) : Plan := { p with resumeGuard := min Config.resumeGuardFull (p.resumeGuard + 1) }

/-- Plan control's action (R116, R117, R124, R125). -/
def planAct (k : WrapPlan) (s : State) : State :=
  if holdExpires s.plan then expireHold s
  else
    let s := { s with plan := countGuard (countHold s.plan) }
    if k.switches then takeSwitch k s else s

/-- A held-frame record one wrap older, saturating at 255 (R44). -/
def aged (r : Held) : Held := { r with age := min 255 (r.age + 1) }

/-- A record past its entry's AGE_LIMIT; a limit of 0 is no limit (R44). -/
def isStale (limit : Nat) (r : Held) : Bool := limit != 0 && decide (limit < r.age)

/-- The records of an entry that its ageing at a wrap removes (R44). -/
def staleAt (x : Stream) : List Held := (x.queue.map aged).filter (isStale x.ageLimit)

/-- The same occurrence reported `n` times (R44, R150). -/
def reportTimes : Nat → Occurrence → State → State
  | 0, _, s => s
  | n + 1, o, s => reportTimes n o (report o s)

/-- The ageing of one entry at a wrap, `reports n` making the reports of its `n` STALE occurrences, none of an invalid
entry (R44). -/
def ageStream (i : StreamId) (reports : Nat → State → State) (s : State) : State :=
  let x := s.stream i
  if x.valid then
    let gone := staleAt x
    let s := setQueue i ((x.queue.map aged).filter fun r => !isStale x.ageLimit r) s
    let s := freeBufs (gone.map Held.buffer) s
    let s := countStream i (fun c => { c with stale := c.stale + BitVec.ofNat 32 gone.length }) s
    withdrawIfEmpty i (reports gone.length s)
  else reports 0 s

/-- The STALE occurrences of one entry, with another event of the note unit after the first `k` (R156). -/
def reportAmid (i : StreamId) (k : Nat) (amid : State → State) (n : Nat) (s : State) : State :=
  reportTimes (n - k) (.stale i) (amid (reportTimes (min k n) (.stale i) s))

/-- The head note has waited RETRY wraps at this wrap (R160). -/
def timesOut (n : Notes) (r : NoteRecord) : Bool := r.state == .awaitingAck && decide (n.retry ≤ r.wait + 1)

/-- The note unit's action (R160): WAIT of a head AWAITING_ACK; at RETRY the head returns to WAITING, or after its
third transmission is abandoned. -/
def notesAct (c : Cycle) (n : Notes) : Notes :=
  match n.queue with
  | r :: rs =>
    if timesOut n r then
      if r.attempts < 3 then { n with queue := { r with state := .waiting, wait := r.wait + 1 } :: rs }
      else
        headLeaves c { n with counters := { n.counters with notesAbandoned := n.counters.notesAbandoned + 1 } }
    else if r.state = .awaitingAck then { n with queue := { r with wait := r.wait + 1 } :: rs }
    else n
  | [] => n

/-- The note unit's action in the whole state (R160). -/
def noteWait (s : State) : State := { s with notes := notesAct s.timer.cycle s.notes }

/-- The U transmitter arbiter decides where what has happened since `before` invokes it (R32). -/
def decideU (before s : State) : State := if invokesU before s then arbiterU s else s

/-- What falls amid the STALE occurrences of one entry: the note unit's action, a decision of the U transmitter
arbiter, or both (R156). -/
def amidAgeing (before : State) (acts grants : Bool) (s : State) : State :=
  let s := if acts then noteWait s else s
  if grants then decideU before s else s

/-- One element of a wrap's order (R56); `before` is the state in which the wrap found the part. -/
def wrapAct (before : State) (k : WrapPlan) (a : WrapAct) (s : State) : State :=
  match a with
  | .sync => syncAct k s
  | .plan => planAct k s
  | .close => closeWindow s
  | .age i => ageStream i (fun n => reportTimes n (.stale i)) s
  | .notes => noteWait s
  | .grantU => decideU before s
  | .ageAmid i n acts grants => ageStream i (reportAmid i n (amidAgeing before acts grants)) s
  | .unit => s

/-- The blocks' actions in the order used where a command names none. DESIGN CHOICE (log entry 3). -/
def defaultOrder : List WrapAct :=
  [.sync, .plan, .close] ++ (List.finRange 32).map WrapAct.age ++ [.notes]

/-- The order a command names, each block's action once, completed by the actions it does not name. -/
def fullOrder : List WrapAct → List WrapAct → List WrapAct
  | [], rest => rest
  | a :: order, rest =>
    if a.blocks.all (· ∈ rest) then a :: fullOrder order (rest.filter (· ∉ a.blocks)) else fullOrder order rest

/-- The staged plan becomes the active plan, SPENT clear in every slot, and the staged L the active L (R117). The copy
is made after the blocks' actions, so that the SPENT mark of a close at this wrap never falls on the new plan: R92
gives this outcome in either order. -/
def copyPlan (k : WrapPlan) (s : State) : State :=
  if k.switches then
    { s with plan := { s.plan with active := s.plan.staged.map fun x => { slot := x }, activeL := s.plan.stagedL } }
  else s

/-- The cycle timer begins the new cycle: number, offset 0, length; CYC rises; the resume offset of the old cycle is
past (R55, R56, R58, R97). -/
def beginCycle (k : WrapPlan) (s : State) : State :=
  { s with
    timer := { cycle := k.number, offset := 0, cl := k.length }
    cyc := true
    engine := { s.engine with resumeOffset := none } }

/-- The next-slot position returns to 0 (R84, R94). -/
def rewind (s : State) : State := { s with engine := { s.engine with nextSlot := 0 } }

/-- Every block has acted at the wrap (R56). -/
def wrapBlocks (order : List WrapAct) (s : State) : State :=
  let k := wrapPlan s
  rewind (copyPlan k ((fullOrder order defaultOrder).foldl (fun t a => wrapAct s k a t) (beginCycle k s)))

/-- The wrap: every block acts, then the D transmitter arbiter is invoked, as at each wrap (R100), and the U
transmitter arbiter where a candidate appeared (R32). A slot at OPEN 0 is taken then, before any other event of the new
cycle (R87). DEDUCED (log entries 3 and 11). -/
def wrapEvent (order : List WrapAct) (s : State) : State :=
  finishEngine (decideU s (arbiterD (wrapBlocks order s)))

/-- What comes before the wrap: all that is due at the last offset, unless the tick that is the wrap has come already,
and the waiting requests, unless the order puts them after the wrap (R119, R129). A completion that falls together with
the wrap does not come before it by itself (R45). -/
def settleBefore (order : List WrapAct) (s : State) : State :=
  let s' := if s.timer.wrapping then s else settleClock s
  if .unit ∈ order then s' else takeWaiting s'

/-- The tick that is the wrap comes, if no command has brought it yet. -/
def reachWrap (s : State) : State := if !s.timer.wrapping && wrapDue s then comeToWrap s else s

/-- A wrap taken under the condition that names the step: what comes before it, its tick, and the wrap. -/
def wrapWhen (cond : State → Bool) (order : List WrapAct) (s : State) : State :=
  let s' := reachWrap (settleBefore order s)
  if s.power == .running && s'.timer.wrapping && cond s' then wrapEvent order s' else s

/-- The wrap at which LOCKED meets its miss limit (R70). -/
def missLimitMet (s : State) : Bool :=
  s.sync.mode == .locked && s.sync.capture.isNone && decide (s.sync.settings.missLimit ≤ s.sync.counts.miss + 1)

/-- The wrap at which HOLDOVER meets its holdover limit (R71). -/
def holdoverLimitMet (s : State) : Bool :=
  s.sync.mode == .holdover && s.sync.capture.isNone &&
    decide (s.sync.settings.holdoverLimit ≤ s.sync.counts.holdover + 1)

/-- A wrap at which some held frame passes its AGE_LIMIT (R44). -/
def staleMet (s : State) : Bool :=
  (List.finRange 32).any fun i => (s.stream i).valid && !(staleAt (s.stream i)).isEmpty

/-- The wrap at which the hold count reaches its limit (R124). -/
def holdExpiryMet (s : State) : Bool := holdExpires s.plan

/-- The wrap at which WAIT of the head note reaches RETRY (R160). -/
def noteTimeoutMet (s : State) : Bool :=
  match s.notes.queue with
  | r :: _ => timesOut s.notes r
  | [] => false

/-! ### The steps -/

/-- WRAP (R56). -/
def execWrap (order : List WrapAct) (s : State) : Host.Outcome State Fault Refusal :=
  .next (wrapWhen (fun _ => true) order s)

/-- MISS_LIMIT_REACHED (R70). -/
def execMissLimitReached (order : List WrapAct) (s : State) : Host.Outcome State Fault Refusal :=
  .next (wrapWhen missLimitMet order s)

/-- HOLDOVER_LIMIT_REACHED (R71). -/
def execHoldoverLimitReached (order : List WrapAct) (s : State) : Host.Outcome State Fault Refusal :=
  .next (wrapWhen holdoverLimitMet order s)

/-- STALE_REMOVAL (R44). -/
def execStaleRemoval (order : List WrapAct) (s : State) : Host.Outcome State Fault Refusal :=
  .next (wrapWhen staleMet order s)

/-- HOLD_EXPIRY (R124). -/
def execHoldExpiry (order : List WrapAct) (s : State) : Host.Outcome State Fault Refusal :=
  .next (wrapWhen holdExpiryMet order s)

/-- NOTE_TIMEOUT (R160). -/
def execNoteTimeout (order : List WrapAct) (s : State) : Host.Outcome State Fault Refusal :=
  .next (wrapWhen noteTimeoutMet order s)

end Sys2Proof.Machine
end

