-- ==== Sys2Proof/Machine/Dispatch.lean ====
section
/-! DEFINITION. Dispatch.lean: one arm for each step of the table, each a direct call of its meaning. -/

namespace Sys2Proof.Machine

def exec (i : Instr) (s : State) : Host.Outcome State Fault Refusal :=
  match i with
  | .powerOn cause => Sys2Proof.Machine.execPowerOn cause s
  | .powerOnComplete goodTicks straps linkU linkD dFirst => Sys2Proof.Machine.execPowerOnComplete goodTicks straps linkU linkD dFirst s
  | .linkChange p l => Sys2Proof.Machine.execLinkChange p l s
  | .headerTime p b => Sys2Proof.Machine.execHeaderTime p b s
  | .frameEnd p b => Sys2Proof.Machine.execFrameEnd p b s
  | .wrap order => Sys2Proof.Machine.execWrap order s
  | .missLimitReached order => Sys2Proof.Machine.execMissLimitReached order s
  | .holdoverLimitReached order => Sys2Proof.Machine.execHoldoverLimitReached order s
  | .staleRemoval order => Sys2Proof.Machine.execStaleRemoval order s
  | .holdExpiry order => Sys2Proof.Machine.execHoldExpiry order s
  | .noteTimeout order => Sys2Proof.Machine.execNoteTimeout order s
  | .cycFall => Sys2Proof.Machine.execCycFall s
  | .slotTake => Sys2Proof.Machine.execSlotTake s
  | .windowClose => Sys2Proof.Machine.execWindowClose s
  | .transmissionComplete p => Sys2Proof.Machine.execTransmissionComplete p s
  | .requestReplay => Sys2Proof.Machine.execRequestReplay s
  | .broadcastIgnore => Sys2Proof.Machine.execBroadcastIgnore s
  | .unknownRequest => Sys2Proof.Machine.execUnknownRequest s
  | .ident => Sys2Proof.Machine.execIdent s
  | .streamWrite => Sys2Proof.Machine.execStreamWrite s
  | .streamDelete => Sys2Proof.Machine.execStreamDelete s
  | .streamLock => Sys2Proof.Machine.execStreamLock s
  | .streamRead => Sys2Proof.Machine.execStreamRead s
  | .streamPurge => Sys2Proof.Machine.execStreamPurge s
  | .slotAdd => Sys2Proof.Machine.execSlotAdd s
  | .slotDrop => Sys2Proof.Machine.execSlotDrop s
  | .slotRead => Sys2Proof.Machine.execSlotRead s
  | .stageEmpty => Sys2Proof.Machine.execStageEmpty s
  | .stageFromActive => Sys2Proof.Machine.execStageFromActive s
  | .cycleStage => Sys2Proof.Machine.execCycleStage s
  | .switch => Sys2Proof.Machine.execSwitch s
  | .withdraw => Sys2Proof.Machine.execWithdraw s
  | .hold => Sys2Proof.Machine.execHold s
  | .resume => Sys2Proof.Machine.execResume s
  | .syncConfig => Sys2Proof.Machine.execSyncConfig s
  | .syncRead => Sys2Proof.Machine.execSyncRead s
  | .traceRead => Sys2Proof.Machine.execTraceRead s
  | .countRead => Sys2Proof.Machine.execCountRead s
  | .noteAck => Sys2Proof.Machine.execNoteAck s
  | .noteConfig => Sys2Proof.Machine.execNoteConfig s
  | .passConfig => Sys2Proof.Machine.execPassConfig s
  | .restart => Sys2Proof.Machine.execRestart s
  | .firstByteOfFrame p b => Sys2Proof.Machine.execFirstByteOfFrame p b s
  | .tick => Sys2Proof.Machine.execTick s

end Sys2Proof.Machine
end

