-- ==== Sys2Proof/Safety.lean ====
section
/-! DEFINITION. Safety.lean: what holds of the part in every run: the invariants the data sheet states of its queues,
its buffers, its plans, its notes, its windows and its sync unit. Each is a plain predicate of a state. -/

namespace Sys2Proof.Safety

open Sys2Proof.Machine

/-- The capacities of the stores and queues (R25, R27, R127, R132, R133, R148). -/
structure Bounded (s : State) : Prop where
  pass : s.stores.pass.length ≤ 12
  back : s.stores.back.length ≤ 16
  input : s.mgmt.input.length ≤ 4
  outbox : s.mgmt.outbox.length ≤ 2
  notes : s.notes.queue.length ≤ 16

/-- The conditions of power-on (R172): those of a running part are the defaults; at most two high samples of RESET# and
4,096 ticks are counted, and ticks are counted only while the conditions are good. -/
structure PowerCoherent (s : State) : Prop where
  running : s.power = .running → s.conditions = {}
  samples : s.conditions.highSamples ≤ 2
  elapsed : s.conditions.elapsed ≤ 4096
  counted : s.conditions.elapsed ≠ 0 →
    s.conditions.supplies = true ∧ s.conditions.refclk = true ∧ s.conditions.highSamples = 2

/-- A stream entry as R36, R37 and R49 bound it: an invalid entry holds nothing and is not LOCKED, a valid one holds at
most DEPTH frames. -/
structure EntryBounded (x : Stream) : Prop where
  depthLow : 1 ≤ x.depth
  depthHigh : x.depth ≤ 4
  age : x.ageLimit ≤ 15
  length : x.queue.length ≤ x.depth
  invalidEmpty : x.valid = false → x.queue = [] ∧ x.locked = false

/-- Every stream entry is as R36 and R37 bound it. -/
def StreamsBounded (s : State) : Prop := ∀ i : StreamId, EntryBounded (s.stream i)

/-- No two valid stream entries have the same TAG (R35). -/
def TagsDistinct (s : State) : Prop :=
  ∀ i j : StreamId, (s.stream i).valid = true → (s.stream j).valid = true → (s.stream i).tag = (s.stream j).tag → i = j

/-- WIN is high while a window stands and the part runs, and low otherwise (R98, R173). -/
def WinShowsWindow (s : State) : Prop :=
  (s.power = .running → s.win = s.engine.window.isSome) ∧ (s.power = .poweringOn → s.win = false ∧ s.cyc = false)

/-- The released count of a standing window: below QUOTA in OPEN, QUOTA in DONE (R83). -/
def WindowQuota (s : State) : Prop :=
  ∀ w, s.engine.window = some w → 1 ≤ w.quota ∧
    (w.phase = .opened → w.released < w.quota) ∧ (w.phase = .done → w.released = w.quota)

/-- A request stands only in OPEN, on a non-empty queue, with no release of the window on the line (R88, R91). -/
def RequestJustified (s : State) : Prop :=
  s.engine.request = true → ∃ w, s.engine.window = some w ∧ w.phase = .opened ∧ w.onLine = false ∧
    (s.stream w.stream).queue ≠ []

/-- The fields of a slot lie in the ranges of R80. -/
structure SlotRanges (x : Slot) : Prop where
  openAt : x.openAt ≤ 1999999
  spanLow : 8 ≤ x.span
  spanHigh : x.span ≤ 65535
  quotaLow : 1 ≤ x.quota
  quotaHigh : x.quota ≤ 4
  every : x.every = 1 ∨ x.every = 2 ∨ x.every = 4 ∨ x.every = 8
  phase : x.phase < x.every

/-- A plan's ordering law: at most 64 slots with their fields in range, and each window ends at or before the OPEN of
every slot that follows it, so that the OPENs ascend strictly (R104). -/
structure PlanOrdered (slots : List Slot) : Prop where
  length : slots.length ≤ 64
  ranges : ∀ x ∈ slots, SlotRanges x
  ordered : slots.Pairwise fun x y => x.openAt + x.span ≤ y.openAt

/-- Both plans keep the ordering law, and both L lie in 2,500 to 2,000,000 ticks (R104). -/
structure PlansOrdered (s : State) : Prop where
  staged : PlanOrdered s.plan.staged
  active : PlanOrdered (s.plan.active.map ActiveSlot.slot)
  stagedL : 2500 ≤ s.plan.stagedL ∧ s.plan.stagedL ≤ 2000000
  activeL : 2500 ≤ s.plan.activeL ∧ s.plan.activeL ≤ 2000000

/-- Every slot of the active plan names a valid stream entry, and while a switch is pending every slot of the staged
plan does (R104, R114). -/
structure NamedValid (s : State) : Prop where
  active : ∀ a ∈ s.plan.active, (s.stream a.slot.stream).valid = true
  staged : s.plan.mode.switching = true → ∀ x ∈ s.plan.staged, (s.stream x.stream).valid = true

/-- The target stands exactly while a switch is pending, and the hold limit and count are 0 while no hold stands
(R112). -/
structure PlanCoherent (s : State) : Prop where
  target : s.plan.target = .none ↔ s.plan.mode.switching = false
  hold : s.plan.mode.holds = false → s.plan.holdLimit = 0 ∧ s.plan.holdCount = 0
  holdCount : s.plan.holdLimit = 0 ∧ s.plan.holdCount = 0 ∨ s.plan.holdCount < s.plan.holdLimit
  guard : s.plan.resumeGuard ≤ 2

/-- While the release gate is shut no window stands (R86, R96). -/
def GateShutNoWindow (s : State) : Prop := gateOpen s = false → s.engine.window = none

/-- A note record that has never been sent (R148). -/
def NeverSent (r : NoteRecord) : Prop := r.attempts = 0 ∧ r.seq = none ∧ r.state = .waiting

/-- Only the oldest note record can have been transmitted, it bears a NOTE_SEQ once it has been, and it is transmitted
at most three times (R148, R149, R160). -/
structure NotesOrdered (n : Notes) : Prop where
  behind : ∀ r ∈ n.queue.tail, NeverSent r
  head : ∀ r, n.queue.head? = some r → (NeverSent r ∨ (1 ≤ r.attempts ∧ r.attempts ≤ 3 ∧ r.seq.isSome = true))
  waiting : ∀ r, n.queue.head? = some r → r.state = .waiting → r.attempts < 3
  counts : ∀ r ∈ n.queue, 1 ≤ r.count ∧ r.count ≤ 255

/-- The lost tally is above 0 only while the queue holds 16 records, and it saturates at 65,535 (R154). -/
def TallyOnlyFull (n : Notes) : Prop := (0 < n.tally → n.queue.length = 16) ∧ n.tally ≤ 65535

/-- The sync settings lie in the ranges of R64. -/
structure SettingsInRange (y : SyncSettings) : Prop where
  markOffset : y.markOffset ≤ 1999999
  lockWindow : 1 ≤ y.lockWindow ∧ y.lockWindow ≤ 4095
  slewLimit : 1 ≤ y.slewLimit ∧ y.slewLimit ≤ 1023
  missLimit : 1 ≤ y.missLimit ∧ y.missLimit ≤ 15
  holdoverLimit : 1 ≤ y.holdoverLimit ∧ y.holdoverLimit ≤ 255

/-- The law of R72: in LOCKED a cycle's length differs from the active L by at most SLEW_LIMIT, in HOLDOVER it equals
it. -/
structure LengthLaw (s : State) : Prop where
  locked : s.sync.mode = .locked → (adjustment s).natAbs ≤ s.sync.settings.slewLimit
  holdover : s.sync.mode = .holdover → adjustment s = 0

/-- The buffers held by the hold queues, the pass-through queue and the return queue (R19). -/
def queuedBuffers (s : State) : List BufId :=
  s.streams.toList.flatMap (fun x => x.queue.map Held.buffer) ++ s.stores.pass ++ s.stores.back

/-- The buffers the two receivers are filling (R19). -/
def fillingBuffers (s : State) : List BufId := s.portU.rx.buffer.toList ++ s.portD.rx.buffer.toList

/-- The buffer a port U transmission is reading out. -/
def sendingU : Option (Transmission SourceU) → List BufId
  | some t =>
    match t.source with
    | .back b => [b]
    | .reply => []
    | .note => []
  | none => []

/-- The buffer a port D transmission is reading out. -/
def sendingD : Option (Transmission SourceD) → List BufId
  | some t =>
    match t.source with
    | .release b _ => [b]
    | .pass b => [b]
    | .mark => []
  | none => []

/-- Each pool buffer is in exactly one state and, unless FREE, has exactly one holder: a QUEUED one is a member of
exactly one queue, a FILLING one belongs to one receiver, a SENDING one to one transmitter (R19). -/
structure PoolOwned (s : State) : Prop where
  once : (queuedBuffers s ++ fillingBuffers s ++ sendingU s.txU ++ sendingD s.txD).Nodup
  queued : ∀ b : BufId, s.pool[b].state = .queued ↔ b ∈ queuedBuffers s
  filling : ∀ b : BufId, s.pool[b].state = .filling ↔ b ∈ fillingBuffers s
  sending : ∀ b : BufId, s.pool[b].state = .sending ↔ b ∈ sendingU s.txU ++ sendingD s.txD
  free : ∀ b : BufId, s.pool[b].state = .free → s.pool[b].bytes = []

end Sys2Proof.Safety
end

