-- ==== Sys2Proof/Certificates/Slice0/Obligations.lean ====
section
/-! DEFINITION. Obligations.lean: the statements for the provers, with the vocabulary they share. The vocabulary says
in the manual's own terms what a request carries, what a reply holds and what a wrap finds, so that the statements do
not repeat the model's definitions. -/

namespace Sys2Proof.Claims

open Sys2Proof.Machine Sys2Proof.Safety

/-! ### Numbers and codes on the link (R144, R145) -/

/-- A number sent in two bytes, most significant first. -/
def word2 (a b : Byte) : Nat := a.toNat * 256 + b.toNat

/-- A number sent in four bytes, most significant first. -/
def word4 (a b c d : Byte) : Nat := ((a.toNat * 256 + b.toNat) * 256 + c.toNat) * 256 + d.toNat

/-- The two bytes of a number. -/
def be2 (n : Nat) : List Byte := [BitVec.ofNat 8 (n / 256), BitVec.ofNat 8 n]

/-- The four bytes of a number. -/
def be4 (n : Nat) : List Byte :=
  [BitVec.ofNat 8 (n / 16777216), BitVec.ofNat 8 (n / 65536), BitVec.ofNat 8 (n / 256), BitVec.ofNat 8 n]

/-- A flag: 0 no, 1 yes. -/
def yesNo (b : Bool) : Byte := if b then 1 else 0

/-- 0 FREE, 1 ACQUIRE, 2 LOCKED, 3 HOLDOVER. -/
def syncCode : SyncMode → Byte
  | .free => 0
  | .acquire => 1
  | .locked => 2
  | .holdover => 3

/-- 0 STEADY, 1 PENDING, 2 HELD, 3 HELD_PENDING. -/
def planCode : PlanMode → Byte
  | .steady => 0
  | .pending => 1
  | .held => 2
  | .heldPending => 3

/-- The bytes of the MREP frame that answers a request: header, OP echo, STATUS, node address, result, CHECK
(R131, R144, R145). -/
def replyBytes (node : NodeAddr) (tag : Tag) (op status : Byte) (result : List Byte) : FrameBytes :=
  let body : FrameBytes :=
    [0, BitVec.ofNat 8 (128 + tag.toNat / 256), BitVec.ofNat 8 tag.toNat, BitVec.ofNat 8 (3 + result.length), op,
     status, BitVec.ofNat 8 node.toNat] ++ result
  body ++ be2 (crc16 body).toNat

/-- The number of FREE buffers (R19). -/
def freeBuffers (s : State) : Nat := s.pool.toList.countP fun b => b.state = .free

/-! ### Requests (R128 to R136) -/

/-- The management unit takes its oldest request `f` next, leaving `rest`: it is READY, with room in its outbox and no
part waiting, as R128 has it. -/
structure Takes (s : State) (f : FrameBytes) (rest : List FrameBytes) : Prop where
  running : s.power = .running
  ready : s.mgmt.mode = .ready
  head : s.mgmt.input = f :: rest
  room : s.mgmt.outbox.length < 2
  parts : s.mgmt.parts = []

/-- The request taken next is `f`, with OP `op` and the arguments `args`. -/
structure Request (s : State) (f : FrameBytes) (rest : List FrameBytes) (op : Byte) (args : List Byte) : Prop where
  takes : Takes s f rest
  payload : payloadOf f = op :: args
  length : lenOf f = args.length + 1

/-- The request is addressed to the part and is not a copy of the last one executed (R135, R136). -/
structure Addressed (s : State) (f : FrameBytes) : Prop where
  dest : destOf f ≠ 127
  fresh : ∀ e, s.mgmt.cache = some e → e.tag = tagOf f → e.payload ≠ payloadOf f

/-- What the owning rule of a request decides: STATUS, result, and the state its effects leave. -/
structure Verdict where
  status : Byte
  result : List Byte
  state : State

/-- A refusal: no effect, an empty result (R131). -/
def refused (status : Byte) (s : State) : Verdict := { status := status, result := [], state := s }

/-- The state after a request is answered in one reply frame: the request has left the input queue, the frame stands
at the tail of the outbox and in the cache, REQUESTS_EXECUTED has risen, and the unit is STALLED once the outbox holds
two frames (R128, R129, R131, R132, R134). -/
def answered (s : State) (f : FrameBytes) (rest : List FrameBytes) (op : Byte) (v : Verdict) : State :=
  let r := replyBytes s.nodeAddr (tagOf f) op v.status v.result
  { v.state with
    mgmt :=
      { v.state.mgmt with
        mode := if s.mgmt.outbox = [] then .ready else .stalled
        input := rest
        outbox := s.mgmt.outbox ++ [{ bytes := r, ofRestart := false }]
        cache := some { tag := tagOf f, payload := payloadOf f, replies := [r] }
        counters :=
          { v.state.mgmt.counters with
            requestsExecuted := v.state.mgmt.counters.requestsExecuted + 1 } } }

/-- A frame placed in the empty outbox invokes the U transmitter arbiter (R32). -/
def offered (s u : State) : State := if s.mgmt.outbox = [] then arbiterU u else u

/-- A broadcast request executed: no reply, the cache unchanged, a refusal reported (R136). -/
def broadcastAnswered (rest : List FrameBytes) (op : Byte) (v : Verdict) : State :=
  let u :=
    { v.state with
      mgmt :=
        { v.state.mgmt with
          input := rest
          counters :=
            { v.state.mgmt.counters with
              requestsExecuted := v.state.mgmt.counters.requestsExecuted + 1 } } }
  if v.status = 0 then u else report (.broadcastRefused op v.status) u

/-! ### Results of the reading requests -/

/-- IDENT's result (R138). -/
def identResult (s : State) : List Byte :=
  [0x5B, 0x1D, 0x32, 0x64, 2, BitVec.ofNat 8 s.nodeAddr.toNat, planCode s.plan.mode, syncCode s.sync.mode,
   BitVec.ofNat 8 (s.streams.toList.countP fun x => x.valid), BitVec.ofNat 8 s.plan.active.length,
   BitVec.ofNat 8 s.plan.staged.length, BitVec.ofNat 8 (freeBuffers s)] ++
    be4 s.timer.cycle.toNat ++ [BitVec.ofNat 8 s.notes.queue.length]

/-- SYNC_READ's result (R78). -/
def syncReadResult (s : State) : List Byte :=
  [syncCode s.sync.mode, BitVec.ofNat 8 s.sync.counts.good, BitVec.ofNat 8 s.sync.counts.miss,
   BitVec.ofNat 8 s.sync.counts.excursion, BitVec.ofNat 8 s.sync.counts.holdover] ++
    be4 s.timer.cycle.toNat ++ be4 s.timer.offset ++ be4 s.timer.cl ++
    (match s.sync.capture with
     | some c =>
       [1] ++ be4 c.offset ++ be4 c.localCycle.toNat ++ be4 c.markNumber.toNat ++ [yesNo c.double]
     | none => List.replicate 14 0)

/-- STREAM_READ's result (R50). -/
def streamReadResult (x : Stream) : List Byte :=
  be2 x.tag.toNat ++
    [BitVec.ofNat 8 x.depth, (match x.policy with | .keep => 0 | .replace => 1), BitVec.ofNat 8 x.ageLimit,
     yesNo x.locked, BitVec.ofNat 8 x.queue.length] ++
    be4 x.counters.arrived.toNat ++ be4 x.counters.released.toNat ++ be4 x.counters.superseded.toNat ++
    be4 x.counters.refused.toNat ++ be4 x.counters.stale.toNat ++ be4 x.counters.missed.toNat ++
    be4 x.counters.purged.toNat ++
    (match x.queue with
     | h :: _ => [1] ++ be4 h.arrivalCycle.toNat ++ be4 h.arrivalOffset ++ [BitVec.ofNat 8 h.age]
     | [] => List.replicate 10 0)

/-- STREAM_READ's verdict (R50). -/
def streamReadVerdict (i : Byte) (s : State) : Verdict :=
  if h : i.toNat < 32 then
    if (s.stream ⟨i.toNat, h⟩).valid then
      { status := 0, result := streamReadResult (s.stream ⟨i.toNat, h⟩), state := s }
    else refused 4 s
  else refused 3 s

/-- The plan status that SLOT_READ carries (R111). -/
def planStatus (p : Plan) : List Byte :=
  [planCode p.mode] ++
    (match p.target with
     | .none => [0] ++ be4 0
     | .next => [1] ++ be4 0
     | .atCycle n => [2] ++ be4 n.toNat) ++
    be4 p.activeL ++ be4 p.stagedL ++
    [BitVec.ofNat 8 p.active.length, BitVec.ofNat 8 p.staged.length, BitVec.ofNat 8 p.holdLimit,
     BitVec.ofNat 8 p.holdCount, BitVec.ofNat 8 p.resumeGuard]

/-- The slot fields that SLOT_READ carries (R111). -/
def slotFields (x : Slot) (spent : Bool) : List Byte :=
  be4 x.openAt ++ be2 x.span ++
    [BitVec.ofNat 8 x.stream.val, BitVec.ofNat 8 x.quota, BitVec.ofNat 8 x.every, BitVec.ofNat 8 x.phase,
     yesNo x.once, yesNo spent]

/-- SLOT_READ's verdict: plan 0 STAGED, 1 ACTIVE (R111). -/
def slotReadVerdict (plan pos : Byte) (s : State) : Verdict :=
  let absent : Verdict := { status := 4, result := planStatus s.plan ++ List.replicate 12 0, state := s }
  if 1 < plan.toNat ∨ 63 < pos.toNat then refused 3 s
  else if plan = 0 then
    match s.plan.staged[pos.toNat]? with
    | some x => { status := 0, result := planStatus s.plan ++ slotFields x false, state := s }
    | none => absent
  else
    match s.plan.active[pos.toNat]? with
    | some a => { status := 0, result := planStatus s.plan ++ slotFields a.slot a.spent, state := s }
    | none => absent

/-- A trace entry as TRACE_READ carries it (R147). That bits 4 to 6 of the FLAGS byte of a written entry are 0 is the
model's choice (log entry 15, DESIGN CHOICE): the spec does not name them. -/
def traceEntry : Option TraceRecord → List Byte
  | none => List.replicate 24 0
  | some r =>
    be2 r.seq.toNat ++ be4 r.cycle.toNat ++
      [BitVec.ofNat 8 (128 + (if r.adjusted then 8 else 0) + (if r.step then 4 else 0) +
         (if r.double then 2 else 0) + (if r.present then 1 else 0)),
       syncCode r.stateAfter] ++
      be4 r.captureOffset ++ be4 r.markNumber.toNat ++ be4 (r.deviation % 4294967296).toNat ++ be4 r.nextLength

/-- The result of part `k` of a TRACE_READ of `count` entries from `start` (R75, R133). -/
def tracePart (y : Sync) (start count k : Nat) : List Byte :=
  let entry (j : Nat) := traceEntry (y.ring.toList.getD ((start + j) % 32) none)
  [BitVec.ofNat 8 k, BitVec.ofNat 8 ((count + 1) / 2)] ++ be2 y.nextSeq.toNat ++ entry (2 * k) ++
    (if 2 * k + 1 < count then entry (2 * k + 1) else [])

/-- The state after a TRACE_READ is answered: its parts fill the outbox as far as it has room, and the rest wait in
the part store (R128, R132 to R134). -/
def answeredInParts (s : State) (f : FrameBytes) (rest : List FrameBytes) (frames : List FrameBytes) : State :=
  let room := 2 - s.mgmt.outbox.length
  let replies := frames.map fun b => ({ bytes := b, ofRestart := false } : Reply)
  { s with
    mgmt :=
      { s.mgmt with
        mode := if s.mgmt.outbox.length + frames.length < 2 then .ready else .stalled
        input := rest
        outbox := s.mgmt.outbox ++ replies.take room
        parts := replies.drop room
        cache := some { tag := tagOf f, payload := payloadOf f, replies := frames }
        counters := { s.mgmt.counters with requestsExecuted := s.mgmt.counters.requestsExecuted + 1 } } }

/-- The counters of a group in reply order, and the state with the group zeroed (R147, R164, R167); none for a code
that names no group. -/
def countGroup (g : Nat) (s : State) : Option (Bool × List Count × State) :=
  let port (c : PortCounters) : List Count :=
    [c.rxGood, c.rxCheck, c.rxMalformed, c.rxMisdirected, c.rxNobuf, c.txFrames, c.linkChanges]
  let f := s.stores.counters
  let y := s.sync.counters
  let p := s.plan.counters
  let m := s.mgmt.counters
  let n := s.notes.counters
  if g = 0 then some (true, port s.portU.counters, { s with portU := { s.portU with counters := {} } })
  else if g = 1 then some (true, port s.portD.counters, { s with portD := { s.portD with counters := {} } })
  else if g = 2 then
    some (true, [f.passForwarded, f.passDropped, f.unmatchedDropped, f.returnForwarded, f.returnDropped,
      f.marksForwarded, f.marksReplaced], { s with stores := { s.stores with counters := {} } })
  else if g = 3 then
    some (true, [y.marksCaptured, y.doubleMarks, y.steps, y.lockLosses, y.misses],
      { s with sync := { s.sync with counters := {} } })
  else if g = 4 then
    some (true, [p.switchesDone, p.switchesWithdrawn, p.holds, p.holdExpiries, p.windowsOpened, p.windowsSkipped],
      { s with plan := { s.plan with counters := {} } })
  else if g = 5 then
    some (true, [m.requestsExecuted, m.replays, m.inputOverruns, m.broadcastIgnored],
      { s with mgmt := { s.mgmt with counters := {} } })
  else if g = 6 then
    some (true, [n.notesSent, n.notesResent, n.notesAbandoned, n.notesLost],
      { s with notes := { s.notes with counters := {} } })
  else if h : g - 32 < 32 ∧ 32 ≤ g then
    let x := s.stream ⟨g - 32, h.1⟩
    some (x.valid, [x.counters.arrived, x.counters.released, x.counters.superseded, x.counters.refused,
      x.counters.stale, x.counters.missed, x.counters.purged],
      { s with streams := s.streams.set (g - 32) { x with counters := {} } h.1 })
  else none

/-- COUNT_READ's verdict (R166, R167). -/
def countReadVerdict (g : Byte) (s : State) : Verdict :=
  match countGroup g.toNat s with
  | some (true, counters, u) =>
    { status := 0, result := g :: counters.flatMap fun c => be4 c.toNat, state := u }
  | some (false, _, _) => refused 4 s
  | none => refused 3 s

/-- A switch is pending (R112). -/
def pendingSwitch (p : Plan) : Bool := decide (p.mode = .pending ∨ p.mode = .heldPending)

/-- Releases are held (R112). -/
def holding (p : Plan) : Bool := decide (p.mode = .held ∨ p.mode = .heldPending)

/-! ### Effects of the stream requests (R46 to R52) -/

/-- STREAM_WRITE's verdict (R46). -/
def streamWriteVerdict (i th tl depth policy age : Byte) (s : State) : Verdict :=
  let tag := word2 th tl
  if h : i.toNat < 32 then
    let x := s.stream ⟨i.toNat, h⟩
    let chosen : Policy := if policy = 0 then .keep else .replace
    if 1023 < tag ∨ depth.toNat < 1 ∨ 4 < depth.toNat ∨ 1 < policy.toNat ∨ 15 < age.toNat then refused 3 s
    else if x.locked then refused 9 s
    else if ∃ j : StreamId, j.val ≠ i.toNat ∧ (s.stream j).valid = true ∧ (s.stream j).tag.toNat = tag then
      refused 5 s
    else if x.valid = true ∧ (x.tag.toNat ≠ tag ∧ x.queue ≠ [] ∨ depth.toNat < x.queue.length) then refused 14 s
    else
      let base : Stream := if x.valid then x else { valid := true }
      let written :=
        { base with tag := BitVec.ofNat 10 tag, depth := depth.toNat, policy := chosen, ageLimit := age.toNat }
      { status := 0, result := [], state := { s with streams := s.streams.set i.toNat written h } }
  else refused 3 s

/-- The held frames of entry `i` are removed: their buffers are FREE, and a release request for the entry is
withdrawn (R47, R52, R91). -/
def emptied (i : StreamId) (s : State) : State :=
  { freeBufs ((s.stream i).queue.map Held.buffer) s with
    engine :=
      { s.engine with
        request :=
          match s.engine.window with
          | some w => if w.stream = i then false else s.engine.request
          | none => s.engine.request } }

/-- The port D transmission after entry `i` becomes invalid: its release is detached (R43). -/
def detached (i : StreamId) : Option (Transmission SourceD) → Option (Transmission SourceD)
  | some t =>
    match t.source with
    | .release b (some j) => if j = i then some { t with source := .release b none } else some t
    | .release _ none => some t
    | .mark => some t
    | .pass _ => some t
  | none => none

/-- STREAM_DELETE's verdict (R47). -/
def streamDeleteVerdict (i : Byte) (s : State) : Verdict :=
  if h : i.toNat < 32 then
    let k : StreamId := ⟨i.toNat, h⟩
    let x := s.stream k
    if x.valid = false then refused 4 s
    else if x.locked then refused 9 s
    else if (∃ a ∈ s.plan.active, a.slot.stream = k) ∨
        (pendingSwitch s.plan ∧ ∃ y ∈ s.plan.staged, y.stream = k) then
      refused 8 s
    else
      { status := 0, result := [BitVec.ofNat 8 x.queue.length],
        state :=
          { emptied k s with
            streams := s.streams.set i.toNat { x with valid := false, queue := [], counters := {} } h
            txD := detached k s.txD } }
  else refused 3 s

/-- STREAM_PURGE's verdict (R52). -/
def streamPurgeVerdict (i : Byte) (s : State) : Verdict :=
  if h : i.toNat < 32 then
    let k : StreamId := ⟨i.toNat, h⟩
    let x := s.stream k
    if x.valid = false then refused 4 s
    else
      { status := 0, result := [BitVec.ofNat 8 x.queue.length],
        state :=
          { emptied k s with
            streams :=
              s.streams.set i.toNat
                { x with
                  queue := []
                  counters := { x.counters with purged := x.counters.purged + BitVec.ofNat 32 x.queue.length } } h } }
  else refused 3 s

/-- STREAM_LOCK's verdict (R48). -/
def streamLockVerdict (i : Byte) (s : State) : Verdict :=
  if h : i.toNat < 32 then
    let x := s.stream ⟨i.toNat, h⟩
    if x.valid = false then refused 4 s
    else { status := 0, result := [], state := { s with streams := s.streams.set i.toNat { x with locked := true } h } }
  else refused 3 s

/-! ### Effects of the plan requests (R105 to R125) -/

/-- Two windows share a tick, their OPENs differing (R106, check 5). -/
def windowsCross (x y : Slot) : Bool :=
  decide (y.openAt < x.openAt ∧ x.openAt < y.openAt + y.span ∨ x.openAt < y.openAt ∧ y.openAt < x.openAt + x.span)

/-- SLOT_ADD's verdict for a slot whose fields are in range, on a staged plan that keeps the ordering law (R106,
checks 2 to 6). -/
def slotAddVerdict (x : Slot) (s : State) : Verdict :=
  let below := s.plan.staged.filter fun y => decide (y.openAt < x.openAt)
  let above := s.plan.staged.filter fun y => decide (x.openAt < y.openAt)
  if pendingSwitch s.plan then refused 1 s
  else if s.plan.staged.length = 64 then refused 7 s
  else if ∃ y ∈ s.plan.staged, y.openAt = x.openAt then refused 5 s
  else if ∃ y ∈ s.plan.staged, windowsCross x y then refused 6 s
  else
    { status := 0, result := [BitVec.ofNat 8 below.length],
      state := { s with plan := { s.plan with staged := below ++ x :: above } } }

/-- SLOT_DROP's verdict on a staged plan that keeps the ordering law (R107). -/
def slotDropVerdict (openAt : Nat) (s : State) : Verdict :=
  if 1999999 < openAt then refused 3 s
  else if pendingSwitch s.plan then refused 1 s
  else if ∃ y ∈ s.plan.staged, y.openAt = openAt then
    { status := 0, result := [BitVec.ofNat 8 (s.plan.staged.countP fun y => decide (y.openAt < openAt))],
      state := { s with plan := { s.plan with staged := s.plan.staged.filter fun y => decide (y.openAt ≠ openAt) } } }
  else refused 4 s

/-- STAGE_EMPTY's verdict (R108). -/
def stageEmptyVerdict (s : State) : Verdict :=
  if pendingSwitch s.plan then refused 1 s
  else
    { status := 0, result := [BitVec.ofNat 8 s.plan.staged.length],
      state := { s with plan := { s.plan with staged := [] } } }

/-- STAGE_FROM_ACTIVE's verdict (R109). -/
def stageFromActiveVerdict (s : State) : Verdict :=
  if pendingSwitch s.plan then refused 1 s
  else
    { status := 0, result := [BitVec.ofNat 8 s.plan.active.length],
      state :=
        { s with plan := { s.plan with staged := s.plan.active.map fun a => a.slot, stagedL := s.plan.activeL } } }

/-- CYCLE_STAGE's verdict (R110). -/
def cycleStageVerdict (l : Nat) (s : State) : Verdict :=
  if l < 2500 ∨ 2000000 < l then refused 3 s
  else if pendingSwitch s.plan then refused 1 s
  else { status := 0, result := [], state := { s with plan := { s.plan with stagedL := l } } }

/-- The VERIFY reason of a staged slot, 0 where it passes: 1 DANGLING, 2 BEYOND, 3 TAIL (R114). -/
def verifyReason (s : State) (x : Slot) : Byte :=
  if (s.stream x.stream).valid = false then 1
  else if s.plan.stagedL < x.openAt + x.span then 2
  else if s.sync.settings.enable = true ∧ (s.plan.stagedL : Int) - s.sync.settings.slewLimit < x.openAt + x.span then 3
  else 0

/-- SWITCH's verdict; mode 0 NEXT, 1 AT (R113 to R115). -/
def switchVerdict (mode : Byte) (n : Nat) (s : State) : Verdict :=
  let ahead := (n + 4294967296 - s.timer.cycle.toNat) % 4294967296
  if 1 < mode.toNat ∨ mode = 1 ∧ (ahead < 1 ∨ 65535 < ahead) then refused 3 s
  else if holding s.plan then refused 2 s
  else if s.plan.mode = .pending then refused 1 s
  else
    match s.plan.staged.find? fun x => decide (verifyReason s x ≠ 0) with
    | some x => { status := 11, result := verifyReason s x :: be4 x.openAt, state := s }
    | none =>
      { status := 0, result := be4 s.timer.cycle.toNat,
        state :=
          { s with
            plan :=
              { s.plan with
                mode := .pending
                target := if mode = 0 then .next else .atCycle (BitVec.ofNat 32 n) } } }

/-- WITHDRAW's verdict (R120). -/
def withdrawVerdict (s : State) : Verdict :=
  let u (m : PlanMode) : State :=
    { s with
      plan :=
        { s.plan with
          mode := m
          target := .none
          counters := { s.plan.counters with switchesWithdrawn := s.plan.counters.switchesWithdrawn + 1 } } }
  let result : List Byte :=
    match s.plan.target with
    | .atCycle n => 1 :: be4 n.toNat
    | .next => 0 :: be4 0
    | .none => 0 :: be4 0
  match s.plan.mode with
  | .pending => { status := 0, result := result, state := u .steady }
  | .heldPending => { status := 0, result := result, state := u .held }
  | .steady => refused 2 s
  | .held => refused 2 s

/-- The slots of the active plan with the one at `pos` marked SPENT (R92). -/
def spentAt (pos : Nat) (slots : List ActiveSlot) : List ActiveSlot :=
  slots.mapIdx fun k a => if k = pos then { a with spent := true } else a

/-- A standing window is ended as the gate shuts: no MISSED, a ONCE slot SPENT, the request withdrawn, WIN low
(R96). -/
def windowEnded (s : State) : State :=
  match s.engine.window with
  | some w =>
    { s with
      win := false
      engine := { s.engine with window := none, request := false }
      plan := if w.once then { s.plan with active := spentAt w.position s.plan.active } else s.plan }
  | none => s

/-- sync-closed (R73). -/
def closedBySync (s : State) : Bool := decide (s.sync.mode = .acquire ∧ s.sync.settings.lostPolicy = .close)

/-- HOLD's verdict (R121). -/
def holdVerdict (limit : Byte) (s : State) : Verdict :=
  if holding s.plan then refused 2 s
  else if s.plan.resumeGuard < 2 then refused 10 s
  else
    let u : State :=
      { s with
        plan :=
          { s.plan with
            mode := if s.plan.mode = .pending then .heldPending else .held
            holdLimit := limit.toNat
            holdCount := 0
            counters := { s.plan.counters with holds := s.plan.counters.holds + 1 } } }
    { status := 0, result := [], state := if closedBySync s then u else windowEnded u }

/-- RESUME's verdict (R122). -/
def resumeVerdict (s : State) : Verdict :=
  let u (m : PlanMode) : State :=
    { s with
      plan := { s.plan with mode := m, holdLimit := 0, holdCount := 0, resumeGuard := 0 }
      engine := { s.engine with resumeOffset := some s.timer.offset } }
  let result := be4 s.timer.cycle.toNat ++ be4 s.timer.offset
  match s.plan.mode with
  | .held => { status := 0, result := result, state := u .steady }
  | .heldPending => { status := 0, result := result, state := u .pending }
  | .steady => refused 2 s
  | .pending => refused 2 s

/-- An arbiter decision on port D where the gate opened or shut (R97, R100). -/
def gateInvokes (s u : State) : State := if gateOpen s = gateOpen u then u else arbiterD u

/-! ### Effects of the sync and note requests -/

/-- The state of the sync unit after SYNC_CONFIG (R77). -/
def configuredState (s : State) (n : SyncSettings) : SyncMode :=
  if n.enable = false then .free
  else
    match s.sync.mode with
    | .free => .acquire
    | .acquire => .acquire
    | .locked =>
      if ((s.timer.cl : Int) - (s.plan.activeL : Int)).natAbs ≤ n.slewLimit then .locked else .acquire
    | .holdover => .holdover

/-- The sync unit after SYNC_CONFIG: all settings replaced, the counts cleared at a change of state, LOCK_LOSSES counted
on leaving LOCKED for ACQUIRE (R65, R77). -/
def configured (s : State) (n : SyncSettings) : Sync :=
  let m := configuredState s n
  { s.sync with
    settings := n
    mode := m
    counts := if m = s.sync.mode then s.sync.counts else {}
    counters :=
      if s.sync.mode = .locked ∧ m = .acquire then
        { s.sync.counters with lockLosses := s.sync.counters.lockLosses + 1 }
      else s.sync.counters }

/-- SYNC_CONFIG's verdict for settings in range (R76, R77, R96). -/
def syncConfigVerdict (n : SyncSettings) (s : State) : Verdict :=
  if pendingSwitch s.plan then refused 1 s
  else
    match s.plan.active.find? fun a =>
        decide (n.enable = true ∧ (s.plan.activeL : Int) - n.slewLimit < a.slot.openAt + a.slot.span) with
    | some a => { status := 11, result := 3 :: be4 a.slot.openAt, state := s }
    | none =>
      let c : State := { s with sync := configured s n }
      let u := if c.sync.mode = s.sync.mode then c else report (.syncState s.sync.mode c.sync.mode) c
      { status := 0, result := [],
        state := if gateOpen s = true ∧ gateOpen c = false then windowEnded u else u }

/-- The note queue after its head leaves: a LOST record follows a leaving from a full queue with a tally (R155). -/
def headGone (c : Cycle) (n : Notes) : Notes :=
  if n.queue.length = 16 ∧ 0 < n.tally then
    { n with
      queue :=
        n.queue.tail ++
          [{ occ := .lost n.tally, count := 1, first := c, last := c, seq := none, attempts := 0, state := .waiting,
             wait := 0 }]
      tally := 0 }
  else { n with queue := n.queue.tail }

/-- NOTE_ACK's verdict where only the head can bear a NOTE_SEQ (R161). -/
def noteAckVerdict (q : Byte) (s : State) : Verdict :=
  match s.notes.queue with
  | r :: _ =>
    if r.seq = some q then { status := 0, result := [], state := { s with notes := headGone s.timer.cycle s.notes } }
    else refused 4 s
  | [] => refused 4 s

/-- NOTE_CONFIG's verdict (R152). -/
def noteConfigVerdict (m1 m0 retry : Byte) (s : State) : Verdict :=
  if 4095 < word2 m1 m0 ∨ retry.toNat < 1 ∨ 64 < retry.toNat then refused 3 s
  else
    { status := 0, result := [],
      state := { s with notes := { s.notes with mask := BitVec.ofNat 12 (word2 m1 m0), retry := retry.toNat } } }

/-- PASS_CONFIG's verdict (R139). -/
def passConfigVerdict (policy g1 g0 : Byte) (s : State) : Verdict :=
  if 1 < policy.toNat ∨ 1023 < word2 g1 g0 then refused 3 s
  else
    { status := 0, result := [],
      state :=
        { s with
          mgmt :=
            { s.mgmt with
              unmatched := if policy = 0 then .forward else .drop
              guardMargin := word2 g1 g0 } } }

/-- A broadcast request that broadcast executes (R136): its step, its OP, and the LEN of that request (R145). -/
def broadcastTable : List (Instr × Byte × Nat) :=
  [(.switch, 0x0D, 6), (.withdraw, 0x0E, 1), (.hold, 0x0F, 2), (.resume, 0x10, 1)]

/-- The step that takes a request whose OP is a code of the request table, and the LEN of that request (R145). -/
def requestTable : List (Instr × Nat) :=
  [(.ident, 1), (.streamWrite, 7), (.streamDelete, 2), (.streamLock, 2), (.streamRead, 2), (.streamPurge, 2),
   (.slotAdd, 12), (.slotDrop, 5), (.slotRead, 3), (.stageEmpty, 1), (.stageFromActive, 1), (.cycleStage, 5),
   (.switch, 6), (.withdraw, 1), (.hold, 2), (.resume, 1), (.syncConfig, 13), (.syncRead, 1), (.traceRead, 3),
   (.countRead, 2), (.noteAck, 2), (.noteConfig, 4), (.passConfig, 4), (.restart, 1)]

/-- Every step that takes a request (R129): those of the table, the replay, the ignoring, the refusal of an unknown
OP. -/
def requestSteps : List Instr := requestTable.map Prod.fst ++ [.requestReplay, .broadcastIgnore, .unknownRequest]

/-- The steps at which the reference clock moves on (R55, R56). TRANSMISSION_COMPLETE is one where the occupancy ends with
the tick that is the wrap (log entry 14). -/
def ClockStep (c : Instr) : Prop :=
  c = .tick ∨ (∃ p, c = .transmissionComplete p) ∨
    ∃ order, c ∈ [.wrap order, .missLimitReached order, .holdoverLimitReached order, .staleRemoval order,
      .holdExpiry order, .noteTimeout order]

/-! ### Reception (R3 to R13) -/

/-- Port `p` takes bytes: the part runs and the line is UP (R17). -/
def Receiving (p : Port) (s : State) : Prop := s.power = .running ∧ (s.port p).link = .up

/-- A header that R4 finds MALFORMED, from its four bytes. -/
def BadHeader (b0 b1 b2 b3 : Byte) : Prop :=
  let kind := b1.toNat / 32
  let tag := b1.toNat % 4 * 256 + b2.toNat
  128 ≤ b0.toNat ∨ b1.toNat / 4 % 8 ≠ 0 ∨ 64 < b3.toNat ∨ kind = 0 ∨ kind = 6 ∨ kind = 7 ∨
    kind = 2 ∧ (b3.toNat ≠ 4 ∨ tag ≠ 0)

/-- The part has a node address (R142). -/
def HasAddress (s : State) : Prop := s.nodeAddr ≠ 0 ∧ s.nodeAddr ≠ 127

/-- The route the tables of R7 and R8 give a header of KIND `kind`, DEST `dest` and TAG `tag`. -/
def RoutedTo (p : Port) (s : State) (kind dest tag : Nat) (r : Route) : Prop :=
  match p with
  | .d => (kind = 2 ∨ kind = 3) ∧ r = .misdirected ∨ (kind = 1 ∨ kind = 4 ∨ kind = 5) ∧ r = .back
  | .u =>
    (kind = 1 ∧ ∃ i, (s.stream i).valid = true ∧ (s.stream i).tag.toNat = tag ∧ r = .hold i) ∨
    (kind = 1 ∧ (∀ i, (s.stream i).valid = true → (s.stream i).tag.toNat ≠ tag) ∧
      (s.mgmt.unmatched = .forward ∧ r = .pass ∨ s.mgmt.unmatched = .drop ∧ r = .drop)) ∨
    (kind = 2 ∧ r = .mark) ∨
    (kind = 3 ∧ HasAddress s ∧ dest = s.nodeAddr.toNat ∧ r = .mgmt) ∨
    (kind = 3 ∧ HasAddress s ∧ dest = 127 ∧ r = .broadcast) ∨
    (kind = 3 ∧ (¬ HasAddress s ∨ dest ≠ s.nodeAddr.toNat ∧ dest ≠ 127) ∧ r = .pass) ∨
    ((kind = 4 ∨ kind = 5) ∧ r = .misdirected)

/-- Port D is granted a buffer while the free count is 1 or more, port U while it is 5 or more (R21). -/
def Granted (p : Port) (s : State) : Prop :=
  match p with
  | .u => 5 ≤ freeBuffers s
  | .d => 1 ≤ freeBuffers s

/-- The receiver in BODY after a header whose fourth byte is `b` (R3). -/
def inBody (rx : Receiver) (b : Byte) (r : Route) (buffer : Option BufId) : Receiver :=
  { state := .body, count := 4, header := rx.header ++ [b], crc := crcByte rx.crc b, check := rx.check,
    route := some r, buffer := buffer }

/-- The state with the header written into the area a route takes (R11, R12). -/
def areaTaken (r : Route) (header : FrameBytes) (s : State) : State :=
  { s with
    markArea := if r = .mark then header else s.markArea
    mgmtArea := if r = .mgmt ∨ r = .broadcast then header else s.mgmtArea }

/-- The state with port `p`'s receiver and counters as given. -/
def withPort (p : Port) (rx : Receiver) (c : PortCounters) (s : State) : State :=
  s.setPort p { s.port p with rx := rx, counters := c }

/-- The last byte of a frame in BODY arrives and the frame is good (R5). -/
structure GoodEnd (p : Port) (s : State) (b : Byte) : Prop where
  receiving : Receiving p s
  body : (s.port p).rx.state = .body
  count : (s.port p).rx.count + 1 = 6 + lenOf (s.port p).rx.header
  check : ((s.port p).rx.check <<< 8) ||| b.zeroExtend 16 = (s.port p).rx.crc
  header : (s.port p).rx.header.length = 4

/-- The state at a good frame's end on port `p`, before its destination acts: the receiver is IDLE and RX_GOOD has
risen (R6). -/
def goodAt (p : Port) (s : State) : State :=
  withPort p {} { (s.port p).counters with rxGood := (s.port p).counters.rxGood + 1 } s

/-- The frame in pool buffer `x` with its last byte written. -/
def frameIn (s : State) (x : BufId) (b : Byte) : FrameBytes := s.pool[x].bytes ++ [b]

/-- The state with pool buffer `x` QUEUED and holding frame `m` (R20). -/
def queuedWith (x : BufId) (m : FrameBytes) (s : State) : State :=
  { s with pool := s.pool.set x { state := .queued, bytes := m } }

/-- The state with pool buffer `x` FREE (R23). -/
def freed (x : BufId) (s : State) : State := { s with pool := s.pool.set x {} }

/-- A good frame reaches the pass-through queue (R25). -/
def toPass (x : BufId) (m : FrameBytes) (s : State) : State :=
  if s.stores.pass.length < 12 then
    { queuedWith x m s with stores := { s.stores with pass := s.stores.pass ++ [x] } }
  else
    { freed x s with
      stores :=
        { s.stores with
          counters := { s.stores.counters with passDropped := s.stores.counters.passDropped + 1 } } }

/-- A good frame is discarded under DROP (R9, R10). -/
def dropped (s : State) : State :=
  { s with
    stores :=
      { s.stores with
        counters := { s.stores.counters with unmatchedDropped := s.stores.counters.unmatchedDropped + 1 } } }

/-- The window of entry `i` wants a release after an admission: it stands OPEN with none on the line (R88). -/
def windowWants (i : StreamId) (s : State) : Bool :=
  match s.engine.window with
  | some w => decide (w.stream = i) && decide (w.phase = .opened) && !w.onLine
  | none => false

/-- A frame of `m` is admitted to entry `i`, whose queue is `q` before it and whose other fields are those of `x`
(R37, R38). -/
def admittedTo (i : StreamId) (x : Stream) (q : List Held) (buffer : BufId) (m : FrameBytes) (s : State) : State :=
  let record : Held :=
    { buffer := buffer, len := lenOf m, arrivalCycle := s.timer.cycle, arrivalOffset := s.timer.offset, age := 0 }
  { queuedWith buffer m s with
    streams := s.streams.set i { x with queue := q ++ [record] }
    engine := { s.engine with request := s.engine.request || windowWants i s } }

/-! ### The wrap (R56) -/

/-- Of the clock's events none falls at the present offset but the next tick: no completion, close, take or fall of
CYC is due, and the tick that is the wrap has not come. -/
structure Quiet (s : State) : Prop where
  running : s.power = .running
  coming : s.timer.wrapping = false
  txU : ∀ t, s.txU = some t → t.remaining ≠ 0
  txD : ∀ t, s.txD = some t → t.remaining ≠ 0
  close : ∀ w, s.engine.window = some w → w.closeAt ≠ s.timer.offset
  take : ∀ a, s.plan.active[s.engine.nextSlot]? = some a → a.slot.openAt ≠ s.timer.offset
  cyc : s.cyc = true → s.timer.offset ≠ 32

/-- The management unit has no request to take: it is not READY, or none waits (R128, R129). -/
def Unasked (s : State) : Prop := s.mgmt.mode = .ready → s.mgmt.input = []

/-- The wrap is next (R55): its tick has come, or it is the next tick and nothing else is due before it. A request that a
READY unit finds waiting is not, where the wrap's order puts it after the wrap (R119). -/
structure AtWrap (s : State) (order : List WrapAct) : Prop where
  running : s.power = .running
  due : s.timer.offset + 1 = s.timer.cl
  quiet : s.timer.wrapping = false → Quiet s
  unasked : .unit ∈ order ∨ Unasked s

/-- No slot of the active plan has OPEN 0, so that none is taken as the cycle begins (R87). -/
def NoneAtZero (s : State) : Prop := ∀ a, s.plan.active.head? = some a → a.slot.openAt ≠ 0

/-- A switch takes effect at a wrap into cycle `n` (R116). -/
def switchesInto (s : State) (n : Cycle) : Bool :=
  decide (s.plan.mode = .pending) &&
    (match s.plan.target with
     | .none => false
     | .next => true
     | .atCycle m => decide ((n.toNat + 4294967296 - m.toNat) % 4294967296 < 2147483648))

/-- The L in force for a cycle numbered `n` (R56, R117). -/
def lengthInForce (s : State) (n : Cycle) : Nat := if switchesInto s n then s.plan.stagedL else s.plan.activeL

/-- `d` is the deviation of capture `c` in the cycle now ending (R63). -/
def IsDeviation (s : State) (c : Capture) (d : Int) : Prop :=
  -(s.timer.cl : Int) ≤ 2 * d ∧ 2 * d < s.timer.cl ∧
    ∃ k : Int, (c.offset : Int) - (s.sync.settings.markOffset + ((s.timer.cl : Int) - s.plan.activeL)) =
      d + k * s.timer.cl

/-- The capture is a number match and within the window (R63). -/
def GoodCapture (s : State) (c : Capture) (d : Int) : Prop :=
  c.markNumber = s.timer.cycle ∧ d.natAbs ≤ s.sync.settings.lockWindow

/-- `d` clamped to plus or minus SLEW_LIMIT (R57). -/
def clamped (s : State) (d : Int) : Int :=
  if d < -(s.sync.settings.slewLimit : Int) then -(s.sync.settings.slewLimit : Int)
  else if (s.sync.settings.slewLimit : Int) < d then s.sync.settings.slewLimit
  else d

/-- The timer at the start of a cycle numbered one more than the last, `a` ticks longer than the L in force (R56). -/
def nextCycle (s : State) (a : Int) : Timer :=
  { cycle := s.timer.cycle + 1, offset := 0, cl := ((lengthInForce s (s.timer.cycle + 1) : Int) + a).toNat }

/-- The timer at the start of a stepped cycle (R57, R68). -/
def steppedCycle (s : State) (c : Capture) (d : Int) : Timer :=
  let l := lengthInForce s (c.markNumber + 1)
  { cycle := c.markNumber + 1, offset := 0, cl := if (l : Int) + d < (l / 2 : Nat) then l / 2 else ((l : Int) + d).toNat }

/-- A held frame one wrap older (R44). -/
def older (r : Held) : Held := { r with age := if r.age < 255 then r.age + 1 else 255 }

/-- A held frame stays at a wrap that has aged it (R44). -/
def stays (limit : Nat) (r : Held) : Bool := decide (limit = 0 ∨ r.age ≤ limit)

/-- The hold of the plan expires at the next wrap (R124). -/
def ExpiresNext (s : State) : Prop :=
  holding s.plan ∧ s.plan.holdLimit ≠ 0 ∧ s.plan.holdCount + 1 = s.plan.holdLimit

/-- What identifies a note record while it waits: its kind, stream and first cycle (R148, R153). -/
def noteKey (r : NoteRecord) : Nat × Option StreamId × Cycle := (r.occ.kind, r.occ.stream, r.first)

/-- Entry `i` and cycle number of an eligible active slot (R81). -/
def eligibleIn (c : Cycle) (a : ActiveSlot) : Prop := c.toNat % a.slot.every = a.slot.phase ∧ a.spent = false

/-! ### Values after the resets -/

/-- Every block but the ports, the note queue and the transmitters at its power-on values (R24, R34, R54, R59, R79,
R103, R126, R143). -/
structure BlocksAtPowerOn (s : State) : Prop where
  running : s.power = .running
  conditions : s.conditions = {}
  cyc : s.cyc = true
  win : s.win = false
  areas : s.markArea = [] ∧ s.mgmtArea = []
  pool : s.pool = Vector.replicate 64 {}
  stores : s.stores = {}
  streams : s.streams = Vector.replicate 32 {}
  timer : s.timer = { cycle := 0, offset := 0, cl := 50000 }
  sync : s.sync = {}
  engine : s.engine = {}
  plan : s.plan = {}
  mgmt : s.mgmt = {}

/-! ### The invariants, gathered -/

/-- READY goes with room in the outbox and no part waiting; a part waits only behind two frames (R128, R133). -/
structure UnitCoherent (m : Mgmt) : Prop where
  ready : m.mode = .ready → m.outbox.length < 2 ∧ m.parts = []
  stalled : m.mode = .stalled → m.outbox.length = 2
  parts : m.parts ≠ [] → m.outbox.length = 2

/-- The capacities, with the coherence of the power-on conditions and of the management unit. -/
def Capacities (s : State) : Prop := Bounded s ∧ PowerCoherent s ∧ (s.power = .running → UnitCoherent s.mgmt)

/-- The laws of the stream table. -/
def StreamTable (s : State) : Prop := StreamsBounded s ∧ TagsDistinct s

/-- The laws of the two plans. -/
def PlanLaws (s : State) : Prop := PlansOrdered s ∧ NamedValid s ∧ PlanCoherent s

/-- The laws of the window record, the request, the gate and WIN. -/
def WindowLaws (s : State) : Prop :=
  PlansOrdered s ∧ StreamsBounded s ∧ WindowQuota s ∧ RequestJustified s ∧ GateShutNoWindow s ∧ WinShowsWindow s

/-- The laws of the note queue. -/
def NoteLaws (s : State) : Prop := s.notes.queue.length ≤ 16 ∧ NotesOrdered s.notes ∧ TallyOnlyFull s.notes

/-- The law of R72 with the ranges it rests on, and the bounds of the offset: the tick that is the wrap comes at the last
one (R55). -/
def LengthLaws (s : State) : Prop :=
  PlansOrdered s ∧ SettingsInRange s.sync.settings ∧ LengthLaw s ∧ s.timer.offset < s.timer.cl ∧
    (s.timer.wrapping = true → s.timer.offset + 1 = s.timer.cl)

/-- A receiver that fills a buffer is in BODY on a route that took one (R3, R7, R8). -/
def FillsInBody (rx : Receiver) : Prop :=
  rx.buffer.isSome = true → rx.state = .body ∧ ∃ r, rx.route = some r ∧ r.needsBuffer = true

/-- While the part runs, the pool is owned as R19 says. -/
def PoolLaws (s : State) : Prop :=
  StreamsBounded s ∧ (s.power = .running → PoolOwned s ∧ FillsInBody s.portU.rx ∧ FillsInBody s.portD.rx)

/-- While the part runs, neither transmitter is IDLE on a line that is UP while a candidate that needs no guard waits
for it (R31, R32, R99, R100). -/
def NoCandidateIdle (s : State) : Prop :=
  WindowLaws s ∧ (s.power = .running →
    (s.txU = none → s.portU.link = .up → s.stores.back = [] ∧ s.mgmt.outbox = [] ∧ noteOffered s.notes = none) ∧
    (s.txD = none → s.portD.link = .up → s.stores.mark = none ∧ s.engine.request = false))

/-! ### What a step leaves, spelled out -/

/-- The part at the start of power-on under the conditions `c`: transmitters and receivers IDLE, CYC and WIN low, a
pending restart abandoned (R18, R58, R98, R172). -/
def poweringOnFrom (c : Conditions) (s : State) : State :=
  { s with
    power := .poweringOn
    conditions := c
    cyc := false
    win := false
    portU := { s.portU with rx := {} }
    portD := { s.portD with rx := {} }
    txU := none
    txD := none
    mgmt := { s.mgmt with mode := if s.mgmt.mode = .restarting then .ready else s.mgmt.mode } }

/-- The STARTED note frame after power-on: kind 14, NOTE_SEQ 0, cycle 0, cause 0 (R146, R158). -/
def startedFrame (node : NodeAddr) : FrameBytes :=
  let body : FrameBytes := [0, 0xA0, BitVec.ofNat 8 node.toNat, 7, 14, 0, 0, 0, 0, 0, 0]
  body ++ be2 (crc16 body).toNat

/-- A port right after power-on (R15, R18): the first report is a change if it is UP. -/
def portAfterPowerOn (l : Link) : PortState :=
  { link := l, counters := { linkChanges := if l = .up then 1 else 0 } }

/-- A record just appended (R153). -/
def newRecord (o : Occurrence) (c : Cycle) : NoteRecord :=
  { occ := o, count := 1, first := c, last := c, seq := none, attempts := 0, state := .waiting, wait := 0 }

/-- The LINK_CHANGE occurrences of the first reports, in the order they are taken (R15, R150). -/
def firstChanges (linkU linkD : Link) (dFirst : Bool) : List Occurrence :=
  let u : List Occurrence := if linkU = .up then [.linkChange .u .up] else []
  let d : List Occurrence := if linkD = .up then [.linkChange .d .up] else []
  if dFirst then d ++ u else u ++ d

/-- The resource a receiver holds is released (R5, R17). -/
def released (rx : Receiver) (s : State) : State :=
  { s with
    pool := match rx.buffer with | some x => s.pool.set x {} | none => s.pool
    markArea := if rx.route = some .mark then [] else s.markArea
    mgmtArea := if rx.route = some .mgmt ∨ rx.route = some .broadcast then [] else s.mgmtArea }

/-- The frame on port `p` is cut as its line goes DOWN (R17). -/
def cut (p : Port) (s : State) : State :=
  let rx := (s.port p).rx
  let c := (s.port p).counters
  match rx.state with
  | .idle => s
  | .skip => withPort p {} c s
  | .header => withPort p {} { c with rxMalformed := c.rxMalformed + 1 } s
  | .body => released rx (withPort p {} { c with rxMalformed := c.rxMalformed + 1 } s)

/-- The line of port `p` changes to `l` (R15, R17). -/
def lineChanged (p : Port) (l : Link) (s : State) : State :=
  let x := s.port p
  let u := s.setPort p { x with link := l, counters := { x.counters with linkChanges := x.counters.linkChanges + 1 } }
  report (.linkChange p l) (if l = .down then cut p u else u)

/-- A byte of the payload or CHECK of a frame in BODY is taken (R3): header and payload bytes enter the running CHECK,
the two bytes after them are the CHECK received, and none beyond 6 + LEN is written. -/
def bodyTaken (p : Port) (b : Byte) (s : State) : State :=
  let rx := (s.port p).rx
  let len := lenOf rx.header
  let next : Receiver :=
    { rx with
      count := rx.count + 1
      crc := if rx.count < 4 + len then crcByte rx.crc b else rx.crc
      check := if 4 + len ≤ rx.count ∧ rx.count < 6 + len then (rx.check <<< 8) ||| b.zeroExtend 16 else rx.check }
  let u := withPort p next (s.port p).counters s
  if rx.count < 6 + len then
    { u with
      markArea := if rx.route = some .mark then s.markArea ++ [b] else s.markArea
      mgmtArea := if rx.route = some .mgmt ∨ rx.route = some .broadcast then s.mgmtArea ++ [b] else s.mgmtArea
      pool :=
        match rx.buffer with
        | some x => s.pool.set x { s.pool[x] with bytes := s.pool[x].bytes ++ [b] }
        | none => s.pool }
  else u

/-- A refusal of a pool buffer at header time (R21): RX_NOBUF and POOL_EXHAUSTED; the receiver goes to SKIP, but stays
in BODY for the management copy of a broadcast request (R12). -/
def bufferRefused (p : Port) (b : Byte) (r : Route) (s : State) : State :=
  let rx := (s.port p).rx
  let c := (s.port p).counters
  let c' := { c with rxNobuf := c.rxNobuf + 1 }
  report .poolExhausted
    (if r = .broadcast then areaTaken r (rx.header ++ [b]) (withPort p (inBody rx b r none) c' s)
     else withPort p { state := .skip } c' s)

/-- A good frame reaches the return queue (R27). -/
def toBack (x : BufId) (m : FrameBytes) (s : State) : State :=
  if s.stores.back.length < 16 then
    { queuedWith x m s with stores := { s.stores with back := s.stores.back ++ [x] } }
  else
    { freed x s with
      stores :=
        { s.stores with
          counters := { s.stores.counters with returnDropped := s.stores.counters.returnDropped + 1 } } }

/-- A good DATA frame whose entry still matches is handed to the stream unit (R38 to R40). -/
def handedToStream (i : StreamId) (x : BufId) (m : FrameBytes) (s : State) : State :=
  let e := s.stream i
  let c := { e.counters with arrived := e.counters.arrived + 1 }
  if e.queue.length < e.depth then admittedTo i { e with counters := c } e.queue x m s
  else
    match e.policy, e.queue with
    | .replace, h :: q =>
      admittedTo i { e with counters := { c with superseded := c.superseded + 1 } } q x m
        (report (.superseded i) (freed h.buffer s))
    | .replace, [] => admittedTo i { e with counters := c } [] x m s
    | .keep, _ =>
      report (.refused i)
        { freed x s with streams := s.streams.set i { e with counters := { c with refused := c.refused + 1 } } }

/-- A good MARK frame `m` with number `n` is captured and stored (R29, R60, R61). -/
def markTaken (m : FrameBytes) (n : Cycle) (s : State) : State :=
  let again := s.sync.capture.isSome
  let k := s.sync.counters
  let c := s.stores.counters
  let u : State :=
    { s with
      markArea := []
      sync :=
        { s.sync with
          capture :=
            some { offset := s.timer.offset, localCycle := s.timer.cycle, markNumber := n, double := again }
          counters :=
            { k with
              marksCaptured := k.marksCaptured + 1
              doubleMarks := if again then k.doubleMarks + 1 else k.doubleMarks } }
      stores :=
        { s.stores with
          mark := some m
          counters := if s.stores.mark.isSome then { c with marksReplaced := c.marksReplaced + 1 } else c } }
  if again then report .doubleMark u else u

/-- A good request `f` is offered to the management input queue (R127). -/
def requestOffered (f : FrameBytes) (s : State) : State :=
  if s.mgmt.input.length < 4 then
    { s with mgmtArea := [], mgmt := { s.mgmt with input := s.mgmt.input ++ [f] } }
  else
    report .inputOverrun
      { s with
        mgmtArea := []
        mgmt :=
          { s.mgmt with counters := { s.mgmt.counters with inputOverruns := s.mgmt.counters.inputOverruns + 1 } } }

/-- The offset, the release engine and the transmitters after a completion on port D of a transmission from `src`,
before the arbiter decides (R14, R26, R30, R43, R90). -/
def completedD (src : SourceD) (s : State) : State :=
  let c := s.portD.counters
  let u : State := { s with txD := none, portD := { s.portD with counters := { c with txFrames := c.txFrames + 1 } } }
  let k := s.stores.counters
  match src with
  | .mark => { u with stores := { s.stores with counters := { k with marksForwarded := k.marksForwarded + 1 } } }
  | .pass x =>
    { freed x u with stores := { s.stores with counters := { k with passForwarded := k.passForwarded + 1 } } }
  | .release x attached =>
    { freed x u with
      streams :=
        match attached with
        | some i =>
          let e := s.stream i
          s.streams.set i { e with counters := { e.counters with released := e.counters.released + 1 } }
        | none => s.streams
      engine :=
        { s.engine with
          window := s.engine.window.map fun w => { w with onLine := false }
          request :=
            s.engine.request ||
              (match s.engine.window with
               | some w => decide (w.phase = .opened) && decide ((s.stream w.stream).queue ≠ [])
               | none => false) } }

/-- The management unit after an outbox entry is freed (R33, R128, R133). -/
def outboxFreed (m : Mgmt) : Mgmt :=
  let outbox := m.outbox.tail ++ m.parts.take 1
  { m with
    outbox := outbox
    parts := m.parts.drop 1
    mode :=
      if m.mode = .stalled ∧ outbox.length < 2 ∧ m.parts.length ≤ 1 then .ready else m.mode }

/-- The part after a completion on port U of a transmission from `src`, before the arbiter decides; a reply is not
that of a RESTART (R14, R33, R159). -/
def completedU (src : SourceU) (s : State) : State :=
  let c := s.portU.counters
  let u : State := { s with txU := none, portU := { s.portU with counters := { c with txFrames := c.txFrames + 1 } } }
  let k := s.stores.counters
  match src with
  | .back x =>
    { freed x u with stores := { s.stores with counters := { k with returnForwarded := k.returnForwarded + 1 } } }
  | .reply => { u with mgmt := outboxFreed s.mgmt }
  | .note =>
    { u with
      notes :=
        { s.notes with
          queue :=
            match s.notes.queue with
            | r :: q => (if r.state = .sending then { r with state := .awaitingAck, wait := 0 } else r) :: q
            | [] => [] } }

/-- A port at a restart (R15, R18). -/
def portRestarted (x : PortState) : PortState :=
  { link := x.link, rx := if x.rx.state = .idle then {} else { state := .skip }, counters := {} }

/-- A port D transmission at a restart: a release of an entry that is not LOCKED is detached (R18, R54). -/
def txRestarted (s : State) : Option (Transmission SourceD) → Option (Transmission SourceD)
  | some t =>
    match t.source with
    | .release b (some i) => if (s.stream i).locked then some t else some { t with source := .release b none }
    | .release _ none => some t
    | .mark => some t
    | .pass _ => some t
  | none => none

/-- Every block at its restart values; node address, link states and a port D transmission are kept (R18, R24, R34,
R54, R59, R79, R103, R126, R141, R143, R163, R171). -/
def restarted (s : State) : State :=
  { s with
    cyc := true
    win := false
    portU := portRestarted s.portU
    portD := portRestarted s.portD
    txU := none
    txD := txRestarted s s.txD
    markArea := []
    mgmtArea := []
    pool := s.pool.map fun b => if b.state = .sending then b else {}
    stores := {}
    streams :=
      s.streams.map fun x => { x with valid := if x.locked then x.valid else false, queue := [], counters := {} }
    timer := { cycle := 0, offset := 0, cl := 50000 }
    sync := {}
    engine := {}
    plan := {}
    mgmt := {}
    notes :=
      { queue := if s.nodeAddr = 0 ∨ s.nodeAddr = 127 then [] else [newRecord (.started .restart) 0] } }

/-- The window of the release engine closes with its MISSED check (R92). -/
def windowClosed (s : State) : State :=
  match s.engine.window with
  | some w =>
    let x := s.stream w.stream
    if w.phase = .opened ∧ x.queue ≠ [] then
      report (.missedWindow w.stream w.openAt)
        (windowEnded
          { s with
            streams :=
              s.streams.set w.stream { x with counters := { x.counters with missed := x.counters.missed + 1 } } })
    else windowEnded s
  | none => s

/-- The slot `a` at the next-slot position is taken: passed over, opened or skipped (R84 to R86, R88, R97). -/
def slotTaken (a : ActiveSlot) (s : State) : State :=
  let u : State := { s with engine := { s.engine with nextSlot := s.engine.nextSlot + 1 } }
  let c := s.plan.counters
  let barred :=
    match s.engine.resumeOffset with
    | some r => decide (a.slot.openAt ≤ r ∧ r < a.slot.openAt + a.slot.span)
    | none => false
  if s.timer.cycle.toNat % a.slot.every ≠ a.slot.phase ∨ a.spent = true then u
  else if gateOpen s = true ∧ barred = false then
    { u with
      win := true
      plan := { s.plan with counters := { c with windowsOpened := c.windowsOpened + 1 } }
      engine :=
        { u.engine with
          window :=
            some
              { position := s.engine.nextSlot, openAt := a.slot.openAt, closeAt := a.slot.openAt + a.slot.span,
                stream := a.slot.stream, quota := a.slot.quota, once := a.slot.once, released := 0,
                phase := .opened, onLine := false }
          request := decide ((s.stream a.slot.stream).queue ≠ []) } }
  else { u with plan := { s.plan with counters := { c with windowsSkipped := c.windowsSkipped + 1 } } }

/-- The trace record of a wrap whose evaluation ends in state `m` (R74). -/
def wrapTrace (s : State) (m : SyncMode) (stepped applied : Bool) (d : Int) (cl : Nat) : TraceRecord :=
  match s.sync.capture with
  | some c =>
    { seq := s.sync.nextSeq, cycle := s.timer.cycle, present := true, double := c.double, step := stepped,
      adjusted := applied, stateAfter := m, captureOffset := c.offset, markNumber := c.markNumber, deviation := d,
      nextLength := cl }
  | none =>
    { seq := s.sync.nextSeq, cycle := s.timer.cycle, present := false, double := false, step := stepped,
      adjusted := applied, stateAfter := m, captureOffset := 0, markNumber := 0, deviation := 0, nextLength := cl }

/-- The sync unit after a wrap outside FREE: the evaluation's outcome, the trace record in the ring, the capture record
empty (R62, R74). -/
def syncWith (s : State) (m : SyncMode) (counts : SyncCounts) (counters : SyncCounters) (r : TraceRecord) : Sync :=
  { s.sync with
    mode := m
    counts := counts
    counters := counters
    capture := none
    ring := s.sync.ring.set s.sync.writePos (some r)
    writePos := s.sync.writePos + 1
    nextSeq := s.sync.nextSeq + 1 }

/-- A wrap leaves state `t`: the sync unit in state `m` with `counts` and `counters`, the timer at `timer`, and the
trace record of the evaluation (R56, R62, R74). -/
def SyncedTo (s t : State) (m : SyncMode) (counts : SyncCounts) (counters : SyncCounters) (timer : Timer)
    (stepped applied : Bool) (d : Int) : Prop :=
  t.timer = timer ∧ t.sync = syncWith s m counts counters (wrapTrace s m stepped applied d timer.cl)

/-- The active slots after the window that stands is closed or ended at a wrap (R92, R94, R96). -/
def activeAfterClose (s : State) : List ActiveSlot :=
  match s.engine.window with
  | some w => if w.once then spentAt w.position s.plan.active else s.plan.active
  | none => s.plan.active

/-- The held frames of an entry after one wrap's ageing (R44). -/
def agedQueue (x : Stream) : List Held := (x.queue.map older).filter (stays x.ageLimit)

/-- The payload of a NOTE frame (R146): kind, NOTE_SEQ, the cycle fields (COUNT, FIRST and LAST CYCLE for the kinds
that coalesce, the cycle number for the others), the stream where the kind has one, the kind's data. -/
def notePayloadOf (seq : Byte) (count : Nat) (first last : Cycle) : Occurrence → List Byte
  | .superseded i => [1, seq, BitVec.ofNat 8 count] ++ be4 first.toNat ++ be4 last.toNat ++ [BitVec.ofNat 8 i.val]
  | .refused i => [2, seq, BitVec.ofNat 8 count] ++ be4 first.toNat ++ be4 last.toNat ++ [BitVec.ofNat 8 i.val]
  | .stale i => [3, seq, BitVec.ofNat 8 count] ++ be4 first.toNat ++ be4 last.toNat ++ [BitVec.ofNat 8 i.val]
  | .missedWindow i o =>
    [4, seq, BitVec.ofNat 8 count] ++ be4 first.toNat ++ be4 last.toNat ++ [BitVec.ofNat 8 i.val] ++ be4 o
  | .poolExhausted => [5, seq, BitVec.ofNat 8 count] ++ be4 first.toNat ++ be4 last.toNat
  | .syncState old new => [6, seq] ++ be4 first.toNat ++ [syncCode old, syncCode new]
  | .switchDone c => [7, seq] ++ be4 first.toNat ++ be4 c.toNat
  | .holdExpired => [8, seq, BitVec.ofNat 8 count] ++ be4 first.toNat ++ be4 last.toNat
  | .linkChange p l =>
    [9, seq] ++ be4 first.toNat ++ [match p with | .u => 0 | .d => 1, match l with | .down => 0 | .up => 1]
  | .doubleMark => [10, seq, BitVec.ofNat 8 count] ++ be4 first.toNat ++ be4 last.toNat
  | .broadcastRefused op status => [11, seq] ++ be4 first.toNat ++ [op, status]
  | .inputOverrun => [12, seq, BitVec.ofNat 8 count] ++ be4 first.toNat ++ be4 last.toNat
  | .lost n => [13, seq] ++ be4 first.toNat ++ be2 n
  | .started cause => [14, seq] ++ be4 first.toNat ++ [match cause with | .powerOn => 0 | .restart => 1]

/-- The NOTE frame of a record (R146, R158): DEST 0, KIND NOTE, TAG the node address, CHECK. -/
def noteBytes (node : NodeAddr) (r : NoteRecord) : FrameBytes :=
  let payload := notePayloadOf (r.seq.getD 0) r.count r.first r.last r.occ
  let body : FrameBytes := [0, 0xA0, BitVec.ofNat 8 node.toNat, BitVec.ofNat 8 payload.length] ++ payload
  body ++ be2 (crc16 body).toNat

/-- The note head `r` as its transmission starts (R158). -/
def noteSent (n : Notes) (r : NoteRecord) : NoteRecord :=
  { r with
    seq := match r.seq with | some q => some q | none => some n.nextSeq
    attempts := r.attempts + 1
    state := .sending }

/-- A frame of `bytes` begins on a transmitter: it occupies it for 32 ticks and 4 more per payload byte (R14). -/
def begun {σ : Type} (src : σ) (bytes : FrameBytes) : Option (Transmission σ) :=
  some { source := src, bytes := bytes, remaining := 32 + 4 * lenOf bytes }

/-- The pool with buffer `x` SENDING the frame it holds (R20). -/
def sendingFrom (s : State) (x : BufId) : Vector Buffer 64 := s.pool.set x { state := .sending, bytes := s.pool[x].bytes }

end Sys2Proof.Claims

open Sys2Proof Sys2Proof.Machine Sys2Proof.Safety Sys2Proof.Claims

/-! ## The queue, reset and power-on -/

/-- A step takes the command at the front of the queue and runs it with the queue's rest. On an empty queue the part
idles, which is the model's choice (log entry 5). -/
def Obligations.StepTakesTheFrontCommand : Prop :=
  (∀ (c : Instr) (rest : List Instr) (s : State), s.pending = c :: rest →
    step s = exec c { s with pending := rest }) ∧
  (∀ s : State, s.pending = [] → step s = .next s)

/-- The reset state holds the power-on values of R18, R24, R34, R54, R59, R79, R103, R126, R143, R163 and R171, with
the STARTED record in the note queue, and meets every invariant. That reset is the moment power-on has completed with
straps reading 5 is the model's choice (log entry 1). -/
def Obligations.ResetHoldsPowerOnValues : Prop :=
  BlocksAtPowerOn State.reset ∧ State.reset.portU = {} ∧ State.reset.portD = {} ∧
  State.reset.txU = none ∧ State.reset.txD = none ∧
  State.reset.notes =
    { queue := [newRecord (.started .powerOn) 0], tally := 0, nextSeq := 0, mask := 0xFFF, retry := 4,
      counters := {} } ∧
  Capacities State.reset ∧ StreamTable State.reset ∧ PlanLaws State.reset ∧ NoteLaws State.reset ∧
  LengthLaws State.reset ∧ PoolLaws State.reset ∧ NoCandidateIdle State.reset

/-- POWER_ON (R18, R172): power-on begins on a supply drop, a stopped REFCLK, or RESET# low at two consecutive ticks or
more, and its count of ticks at 0; a low of one tick has no effect, but breaks off a sampling of RESET# high. The ends of
the conditions, which the model lets this row carry (log entry 8, DESIGN CHOICE), change only the conditions of a
power-on in progress. -/
def Obligations.PowerOnBegins : Prop :=
  ∀ s : State,
    let c := s.conditions
    exec (.powerOn .supplyDrop) s = .next (poweringOnFrom { c with supplies := false, elapsed := 0 } s) ∧
    exec (.powerOn .refclkStop) s = .next (poweringOnFrom { c with refclk := false, elapsed := 0 } s) ∧
    (∀ n : Nat, 2 ≤ n →
      exec (.powerOn (.resetLow n)) s =
        .next (poweringOnFrom { c with resetHigh := false, highSamples := 0, elapsed := 0 } s)) ∧
    (s.power = .running ∨ 2 ≤ c.highSamples → exec (.powerOn (.resetLow 1)) s = .next s) ∧
    (s.power = .running →
      ∀ e ∈ [PowerCause.suppliesGood, .refclkRuns, .resetHigh], exec (.powerOn e) s = .next s) ∧
    (s.power = .poweringOn →
      (c.highSamples < 2 →
        exec (.powerOn (.resetLow 1)) s = .next { s with conditions := { c with highSamples := 0 } }) ∧
      exec (.powerOn .suppliesGood) s = .next { s with conditions := { c with supplies := true } } ∧
      exec (.powerOn .refclkRuns) s = .next { s with conditions := { c with refclk := true } } ∧
      exec (.powerOn .resetHigh) s = .next { s with conditions := { c with resetHigh := true } })

/-- POWER_ON_COMPLETE, and the TICKs of power-on (R15, R163, R172): the ticks are counted once the supplies and REFCLK are
good and RESET# was sampled high at two consecutive ticks; after 4,096 of them every block has its power-on values for
the straps sampled. The framers take the first link reports, and with port U UP the STARTED note begins at once. That the
command does nothing outside power-on, before the 4,096 ticks or with another count than the part's is log entries 2
and 8 (DESIGN CHOICE), and that the count, the straps and the link reports are its operands is log entry 8. -/
def Obligations.PowerOnCompletes : Prop :=
  ∀ (s : State) (n : Nat) (straps : NodeAddr) (linkU linkD : Link) (dFirst : Bool),
    let c := s.conditions
    let good := c.supplies = true ∧ c.refclk = true ∧ 2 ≤ c.highSamples
    (s.power = .poweringOn →
      (c.refclk = false → exec .tick s = .next s) ∧
      (good →
        exec .tick s =
          .next { s with conditions := { c with elapsed := if c.elapsed < 4096 then c.elapsed + 1 else 4096 } }) ∧
      (c.refclk = true → ¬ good →
        exec .tick s =
          .next
            { s with
              conditions :=
                { c with
                  highSamples := if c.resetHigh = false then 0 else if c.highSamples < 2 then c.highSamples + 1 else 2
                  elapsed := 0 } })) ∧
    (s.power = .running ∨ ¬ good ∨ c.elapsed ≠ 4096 ∨ n ≠ 4096 →
      exec (.powerOnComplete n straps linkU linkD dFirst) s = .next s) ∧
    (s.power = .poweringOn → good → c.elapsed = 4096 → n = 4096 →
      ∃ t, exec (.powerOnComplete n straps linkU linkD dFirst) s = .next t ∧
        BlocksAtPowerOn t ∧ t.nodeAddr = straps ∧ t.txD = none ∧ t.pending = s.pending ∧
        t.portU = portAfterPowerOn linkU ∧ t.portD = portAfterPowerOn linkD ∧
        (straps = 0 ∨ straps = 127 → t.txU = none ∧ t.notes = {}) ∧
        (straps ≠ 0 → straps ≠ 127 → linkU = .down →
          t.txU = none ∧
          t.notes = { queue := (.started .powerOn :: firstChanges linkU linkD dFirst).map (newRecord · 0) }) ∧
        (straps ≠ 0 → straps ≠ 127 → linkU = .up →
          t.txU = some { source := .note, bytes := startedFrame straps, remaining := 60 } ∧
          t.notes =
            { queue :=
                { newRecord (.started .powerOn) 0 with seq := some 0, attempts := 1, state := .sending } ::
                  (firstChanges linkU linkD dFirst).map (newRecord · 0)
              nextSeq := 1
              counters := { notesSent := 1 } }))

/-! ## Lines and reception -/

/-- LINK_CHANGE (R15 to R17): a report equal to the held state is no event; a differing one changes it, counts, reports
an occurrence, and on DOWN cuts a frame being received. -/
def Obligations.LinkReportTaken : Prop :=
  ∀ (s : State) (p : Port) (l : Link), s.power = .running →
    ((s.port p).link = l → exec (.linkChange p l) s = .next s) ∧
    ((s.port p).link ≠ l → exec (.linkChange p l) s = .next (conclude s (lineChanged p l s)))

/-- FIRST_BYTE_OF_FRAME (R3): a byte that is neither the fourth nor the last of its frame, in each receiver state. -/
def Obligations.FrameByteTaken : Prop :=
  ∀ (s : State) (p : Port) (b : Byte), Receiving p s →
    let rx := (s.port p).rx
    let c := (s.port p).counters
    (rx.state = .idle →
      exec (.firstByteOfFrame p b) s =
        .next (withPort p { state := .header, count := 1, header := [b], crc := crcByte 0xFFFF b } c s)) ∧
    (rx.state = .header → rx.count < 3 →
      exec (.firstByteOfFrame p b) s =
        .next (withPort p { rx with count := rx.count + 1, header := rx.header ++ [b], crc := crcByte rx.crc b } c s)) ∧
    (rx.state = .body → 4 ≤ rx.count → exec (.firstByteOfFrame p b) s = .next (bodyTaken p b s)) ∧
    (rx.state = .skip → exec (.firstByteOfFrame p b) s = .next s)

/-- HEADER_TIME of an acceptable header (R3, R7 to R9, R12, R13, R21): the frame takes the route of its kind, DEST and
TAG, and the lowest FREE buffer where the route needs one and the pool grants it. -/
def Obligations.HeaderRouted : Prop :=
  ∀ (s : State) (p : Port) (b0 b1 b2 b : Byte) (r : Route),
    Receiving p s → (s.port p).rx.state = .header → (s.port p).rx.count = 3 →
    (s.port p).rx.header = [b0, b1, b2] → ¬ BadHeader b0 b1 b2 b → TagsDistinct s →
    RoutedTo p s (b1.toNat / 32) b0.toNat (b1.toNat % 4 * 256 + b2.toNat) r →
    let rx := (s.port p).rx
    let c := (s.port p).counters
    (r.needsBuffer = false →
      exec (.headerTime p b) s = .next (areaTaken r [b0, b1, b2, b] (withPort p (inBody rx b r none) c s))) ∧
    (r.needsBuffer = true → Granted p s →
      ∃ x : BufId, s.pool[x].state = .free ∧ (∀ y : BufId, y < x → s.pool[y].state ≠ .free) ∧
        exec (.headerTime p b) s =
          .next
            { areaTaken r [b0, b1, b2, b] (withPort p (inBody rx b r (some x)) c s) with
              pool := s.pool.set x { state := .filling, bytes := [b0, b1, b2, b] } }) ∧
    (r.needsBuffer = true → ¬ Granted p s →
      exec (.headerTime p b) s = .next (conclude s (bufferRefused p b r s)))

/-- Frames that are not good (R3 to R5, R23): a MALFORMED header; an end before the header is whole; an end in SKIP;
and in BODY a wrong length, or a right length with a wrong CHECK. The count, the receiver, and the resource freed. -/
def Obligations.BadFrameCounted : Prop :=
  ∀ (s : State) (p : Port) (b : Byte), Receiving p s →
    let rx := (s.port p).rx
    let c := (s.port p).counters
    let malformed : PortCounters := { c with rxMalformed := c.rxMalformed + 1 }
    (∀ b0 b1 b2 : Byte, rx.state = .header → rx.count = 3 → rx.header = [b0, b1, b2] → BadHeader b0 b1 b2 b →
      exec (.headerTime p b) s = .next (withPort p { state := .skip } malformed s)) ∧
    (rx.state = .idle → exec (.frameEnd p b) s = .next (withPort p rx malformed s)) ∧
    (rx.state = .header → exec (.frameEnd p b) s = .next (withPort p {} malformed s)) ∧
    (rx.state = .skip → exec (.frameEnd p b) s = .next (withPort p {} c s)) ∧
    (rx.state = .body → 4 ≤ rx.count → rx.count + 1 ≠ 6 + lenOf rx.header →
      exec (.frameEnd p b) s = .next (released rx (withPort p {} malformed s))) ∧
    (rx.state = .body → rx.count + 1 = 6 + lenOf rx.header →
      (rx.check <<< 8) ||| b.zeroExtend 16 ≠ rx.crc →
      exec (.frameEnd p b) s = .next (released rx (withPort p {} { c with rxCheck := c.rxCheck + 1 } s)))

/-- The good end of a frame that goes to no stream (R6, R9, R13, R25, R27): a misdirected kind, a discard under DROP,
the pass-through queue, the return queue. -/
def Obligations.GoodFrameForwarded : Prop :=
  ∀ (s : State) (p : Port) (b : Byte), GoodEnd p s b →
    let rx := (s.port p).rx
    let c := (s.port p).counters
    (rx.route = some .misdirected → rx.buffer = none →
      exec (.frameEnd p b) s = .next (withPort p {} { c with rxMisdirected := c.rxMisdirected + 1 } s)) ∧
    (rx.route = some .drop → rx.buffer = none → exec (.frameEnd p b) s = .next (dropped (goodAt p s))) ∧
    (∀ x : BufId, rx.route = some .pass → rx.buffer = some x →
      exec (.frameEnd p b) s = .next (conclude s (toPass x (frameIn s x b) (goodAt p s)))) ∧
    (∀ x : BufId, rx.route = some .back → rx.buffer = some x →
      exec (.frameEnd p b) s = .next (conclude s (toBack x (frameIn s x b) (goodAt p s))))

/-- The good end of a matched DATA frame (R10, R38 to R40, R88): the recheck, and the admission, supersession or
refusal by the entry; an entry that no longer matches leaves it to the unmatched policy. -/
def Obligations.MatchedFrameAdmitted : Prop :=
  ∀ (s : State) (p : Port) (b : Byte) (i : StreamId) (x : BufId), GoodEnd p s b →
    (s.port p).rx.route = some (.hold i) → (s.port p).rx.buffer = some x →
    (∀ h ∈ (s.stream i).queue, h.buffer ≠ x) →
    let m := frameIn s x b
    let u := goodAt p s
    ((s.stream i).valid = true → (s.stream i).tag = tagOf (s.port p).rx.header →
      exec (.frameEnd p b) s = .next (conclude s (handedToStream i x m u))) ∧
    ((s.stream i).valid = false ∨ (s.stream i).tag ≠ tagOf (s.port p).rx.header →
      exec (.frameEnd p b) s =
        .next
          (conclude s
            (match s.mgmt.unmatched with
             | .forward => toPass x m u
             | .drop => dropped (freed x u))))

/-- The good end of a MARK (R11, R29, R60, R61): the capture record takes the offset, the cycle number and the MARK's
number, and the mark store takes the frame. -/
def Obligations.MarkCaptured : Prop :=
  ∀ (s : State) (p : Port) (b h0 h1 h2 n3 n2 n1 n0 k : Byte), GoodEnd p s b →
    (s.port p).rx.route = some .mark → (s.port p).rx.buffer = none →
    (s.port p).rx.header = [h0, h1, h2, 4] → s.markArea = [h0, h1, h2, 4, n3, n2, n1, n0, k] →
    exec (.frameEnd p b) s =
      .next (conclude s (markTaken (s.markArea ++ [b]) (BitVec.ofNat 32 (word4 n3 n2 n1 n0)) (goodAt p s)))

/-- The good end of a request (R12, R127): it enters the management input queue, or is an input overrun; a broadcast
request's copy goes to the pass-through queue where a buffer was granted. -/
def Obligations.RequestQueued : Prop :=
  ∀ (s : State) (p : Port) (b : Byte), GoodEnd p s b →
    let rx := (s.port p).rx
    let u := requestOffered (s.mgmtArea ++ [b]) (goodAt p s)
    (rx.route = some .mgmt ∨ rx.route = some .broadcast → rx.buffer = none →
      exec (.frameEnd p b) s = .next (conclude s u)) ∧
    (∀ x : BufId, rx.route = some .broadcast → rx.buffer = some x →
      exec (.frameEnd p b) s = .next (conclude s (toPass x (frameIn s x b) u)))

/-! ## Transmitters -/

/-- The U transmitter arbiter (R14, R16, R31, R132, R158): with the transmitter BUSY or port U DOWN it grants nothing;
of two waiting classes it grants the one other than LAST_SOURCE, an outbox entry before a note. -/
def Obligations.ArbiterUAlternates : Prop :=
  (∀ s : State, s.txU ≠ none ∨ s.portU.link = .down → arbiterU s = s) ∧
  (∀ s : State, s.txU = none → s.portU.link = .up →
    (∀ (x : BufId) (q : List BufId), s.stores.back = x :: q →
      s.stores.lastSource = .part ∨ s.mgmt.outbox = [] ∧ noteOffered s.notes = none →
      arbiterU s =
        { s with
          txU := begun (.back x) s.pool[x].bytes
          pool := sendingFrom s x
          stores := { s.stores with back := q, lastSource := .back } }) ∧
    (s.stores.back = [] ∨ s.stores.lastSource = .back →
      (∀ (r : Reply) (q : List Reply), s.mgmt.outbox = r :: q →
        arbiterU s = { s with txU := begun .reply r.bytes, stores := { s.stores with lastSource := .part } }) ∧
      (∀ (r : NoteRecord) (q : List NoteRecord), s.mgmt.outbox = [] → s.notes.queue = r :: q → r.state = .waiting →
        arbiterU s =
          { s with
            txU := begun .note (noteBytes s.nodeAddr (noteSent s.notes r))
            stores := { s.stores with lastSource := .part }
            notes :=
              { s.notes with
                queue := noteSent s.notes r :: q
                nextSeq := if r.seq = none then s.notes.nextSeq + 1 else s.notes.nextSeq
                counters :=
                  if r.attempts = 0 then { s.notes.counters with notesSent := s.notes.counters.notesSent + 1 }
                  else { s.notes.counters with notesResent := s.notes.counters.notesResent + 1 } } })) ∧
    (s.stores.back = [] → s.mgmt.outbox = [] → noteOffered s.notes = none → arbiterU s = s))

/-- The D transmitter arbiter (R14, R16, R26, R30, R43, R89, R99): first the mark store, then a standing request, then
the pass-through head if the guard allows it. -/
def Obligations.ArbiterDPriority : Prop :=
  (∀ s : State, s.txD ≠ none ∨ s.portD.link = .down → arbiterD s = s) ∧
  (∀ s : State, s.txD = none → s.portD.link = .up →
    (∀ m : FrameBytes, s.stores.mark = some m →
      arbiterD s = { s with txD := begun .mark m, stores := { s.stores with mark := none } }) ∧
    (∀ (w : Window) (h : Held) (q : List Held), s.stores.mark = none → s.engine.request = true →
      s.engine.window = some w → (s.stream w.stream).queue = h :: q →
      arbiterD s =
        { s with
          txD := begun (.release h.buffer (some w.stream)) s.pool[h.buffer].bytes
          pool := sendingFrom s h.buffer
          streams := s.streams.set w.stream { s.stream w.stream with queue := q }
          engine :=
            { s.engine with
              request := false
              window :=
                some
                  { w with
                    released := w.released + 1
                    onLine := true
                    phase := if w.quota ≤ w.released + 1 then .done else w.phase } } }) ∧
    (∀ (x : BufId) (q : List BufId), s.stores.mark = none → s.engine.request = false → s.stores.pass = x :: q →
      arbiterD s =
        if guardAllows s (lenOf s.pool[x].bytes) then
          { s with
            txD := begun (.pass x) s.pool[x].bytes
            pool := sendingFrom s x
            stores := { s.stores with pass := q } }
        else s) ∧
    (s.stores.mark = none → s.engine.request = false → s.stores.pass = [] → arbiterD s = s))

/-- The guard (R101, R102): with the gate shut a pass-through frame may start; while a window stands OPEN it may not;
otherwise its ticks and GUARD_MARGIN must fit before the next OPEN that is eligible, in this cycle or, if none is left
in it, in the next. -/
def Obligations.GuardProtectsNextOpen : Prop :=
  ∀ (s : State) (len : Nat), s.timer.offset < s.timer.cl →
    let need := 32 + 4 * len + s.mgmt.guardMargin
    let ahead (a : ActiveSlot) : Prop :=
      a ∈ s.plan.active.drop s.engine.nextSlot ∧ a.slot.openAt < s.timer.cl ∧ eligibleIn s.timer.cycle a
    PlanOrdered (s.plan.active.map ActiveSlot.slot) →
    (gateOpen s = false → guardAllows s len = true) ∧
    (gateOpen s = true → (∃ w, s.engine.window = some w ∧ w.phase = .opened) → guardAllows s len = false) ∧
    (gateOpen s = true → (∀ w, s.engine.window = some w → w.phase = .done) → (∃ a, ahead a) →
      (guardAllows s len = true ↔ ∀ a, ahead a → s.timer.offset + need ≤ a.slot.openAt)) ∧
    (gateOpen s = true → (∀ w, s.engine.window = some w → w.phase = .done) → (¬ ∃ a, ahead a) →
      (guardAllows s len = true ↔
        ∀ a ∈ s.plan.active, eligibleIn (s.timer.cycle + 1) a →
          s.timer.offset + need ≤ s.timer.cl + a.slot.openAt))

/-- TRANSMISSION_COMPLETE on port D (R14, R26, R30, R43, R88, R90): TX_FRAMES, the source told, the buffer freed,
RELEASED of an attached entry, a new request tested, and the arbiter invoked. -/
def Obligations.CompletionOnPortD : Prop :=
  ∀ (s : State) (t : Transmission SourceD), s.power = .running → s.txD = some t → t.remaining = 0 →
    exec (.transmissionComplete .d) s = .next (arbiterD (completedD t.source s))

/-- TRANSMISSION_COMPLETE on port U (R14, R28, R33, R128, R159), but for the reply to a RESTART. -/
def Obligations.CompletionOnPortU : Prop :=
  ∀ (s : State) (t : Transmission SourceU), s.power = .running → s.txU = some t → t.remaining = 0 →
    (t.source = .reply → ∃ r q, s.mgmt.outbox = r :: q ∧ r.ofRestart = false) →
    exec (.transmissionComplete .u) s = .next (arbiterU (completedU t.source s))

/-- The restart takes effect as the reply to RESTART completes (R33, R141): every block at its restart values, then
the U transmitter arbiter. That port U's counters are all 0 after it, the TX_FRAMES of the RESTART reply included, is log
entry 9 (DEDUCED, unsafe): the reply is counted before the zeroing. -/
def Obligations.RestartTakesEffect : Prop :=
  ∀ (s : State) (t : Transmission SourceU) (r : Reply) (q : List Reply), s.power = .running → s.txU = some t →
    t.remaining = 0 → t.source = .reply → s.mgmt.outbox = r :: q → r.ofRestart = true →
    exec (.transmissionComplete .u) s = .next (arbiterU (restarted s))

/-- What falls together with the wrap may be taken before it or after it (R45, R62, R159). In the model a TICK at the last
offset brings the tick that is the wrap, and the wrap is still to be taken (log entry 14). A completion that ends with
that tick, commanded before it, is that tick and then the completion; a WRAP is that tick and then the wrap. So all that
is due at the last offset comes before either, and what is granted between that tick and the wrap has its whole occupancy
to come (R14), whatever grants it: the wrap passes no further tick. The premise on the tick leaves out a restart that
takes effect at the last offset (R59): there the cycle has no wrap. -/
def Obligations.CompletionWithTheWrap : Prop :=
  ∀ s u : State, s.power = .running → s.timer.wrapping = false → s.timer.offset + 1 = s.timer.cl →
    exec .tick s = .next u → u.timer.wrapping = true →
    (∀ t, s.txD = some t → t.remaining = 1 →
      exec (.transmissionComplete .d) s = exec (.transmissionComplete .d) u) ∧
    (∀ t, s.txU = some t → t.remaining = 1 →
      exec (.transmissionComplete .u) s = exec (.transmissionComplete .u) u) ∧
    (∀ order, .unit ∉ order → exec (.wrap order) s = exec (.wrap order) u) ∧
    (∀ order v, exec (.wrap order) u = .next v →
      v.timer.offset = 0 ∧ v.timer.wrapping = false ∧
      (∀ x, u.txU = some x → v.txU = some x) ∧ (∀ x, u.txD = some x → v.txD = some x))

/-! ## Notes recorded and sent -/

/-- An occurrence reported to the note unit (R142, R151, R153, R154): no trace of a masked kind or in an unaddressed
part; a coalescing kind folds into the first record of its KIND and STREAM never sent; else a record is appended; else
the loss is counted. -/
def Obligations.OccurrenceRecorded : Prop :=
  ∀ (s : State) (o : Occurrence),
    (¬ HasAddress s ∨ o.kind ≤ 12 ∧ s.notes.mask.getLsbD (o.kind - 1) = false → report o s = s) ∧
    (HasAddress s → (12 < o.kind ∨ s.notes.mask.getLsbD (o.kind - 1) = true) →
      let folds (r : NoteRecord) : Prop :=
        o.kind ∈ [1, 2, 3, 4, 5, 8, 10, 12] ∧ r.attempts = 0 ∧ r.occ.kind = o.kind ∧ r.occ.stream = o.stream
      (∀ (pre post : List NoteRecord) (r : NoteRecord), s.notes.queue = pre ++ r :: post →
        (∀ x ∈ pre, ¬ folds x) → folds r →
        report o s =
          { s with
            notes :=
              { s.notes with
                queue :=
                  pre ++
                    { r with occ := o, count := min 255 (r.count + 1), last := s.timer.cycle } :: post } }) ∧
      ((∀ x ∈ s.notes.queue, ¬ folds x) → s.notes.queue.length < 16 →
        report o s =
          { s with notes := { s.notes with queue := s.notes.queue ++ [newRecord o s.timer.cycle] } }) ∧
      ((∀ x ∈ s.notes.queue, ¬ folds x) → 16 ≤ s.notes.queue.length →
        report o s =
          { s with
            notes :=
              { s.notes with
                tally := if s.notes.tally < 65535 then s.notes.tally + 1 else 65535
                counters := { s.notes.counters with notesLost := s.notes.counters.notesLost + 1 } } }))

/-- The NOTE frame of a record (R146, R158): DEST 0, TAG the node address, the fields of its kind in order, CHECK. -/
def Obligations.NoteFrameLayout : Prop :=
  ∀ (node : NodeAddr) (r : NoteRecord), noteFrame node r = noteBytes node r

/-! ## The clock within a cycle -/

/-- TICK and CYC_FALL (R14, R55, R58, R129): a tick that is not a wrap and has nothing due before it advances the offset
and both transmissions; at the last offset it is the tick that is the wrap, which passes on both transmissions and leaves
the wrap to be taken, and no tick comes between (log entry 14); CYC, high from the wrap, falls at offset 32. Where a
completion, a close, a take, the fall of CYC or a waiting request is due and no command has taken it, the TICK takes it
first, as its own command would: port D before port U, then the release engine, CYC and the requests, which is the model's
choice of order (log entry 4). -/
def Obligations.TickAdvances : Prop :=
  (∀ s : State, Quiet s → Unasked s →
    let passed : State :=
      { s with
        txU := s.txU.map fun x => { x with remaining := x.remaining - 1 }
        txD := s.txD.map fun x => { x with remaining := x.remaining - 1 } }
    (s.timer.offset + 1 < s.timer.cl →
      exec .tick s = .next { passed with timer := { s.timer with offset := s.timer.offset + 1 } }) ∧
    (s.timer.offset + 1 = s.timer.cl →
      exec .tick s = .next { passed with timer := { s.timer with wrapping := true } })) ∧
  (∀ s : State, s.power = .running → s.timer.wrapping = true → exec .tick s = .next s) ∧
  (∀ s : State, s.power = .running → s.timer.offset = 32 → exec .cycFall s = .next { s with cyc := false }) ∧
  (∀ s u : State, s.power = .running → s.timer.wrapping = false →
    (∀ t, s.txD = some t → t.remaining = 0 →
      exec (.transmissionComplete .d) s = .next u → exec .tick s = exec .tick u) ∧
    (∀ t, s.txU = some t → t.remaining = 0 → (∀ x, s.txD = some x → x.remaining ≠ 0) →
      exec (.transmissionComplete .u) s = .next u → exec .tick s = exec .tick u) ∧
    ((∀ x, s.txD = some x → x.remaining ≠ 0) → (∀ x, s.txU = some x → x.remaining ≠ 0) →
      PlanOrdered (s.plan.active.map ActiveSlot.slot) →
      (∀ w, s.engine.window = some w → w.closeAt = s.timer.offset →
        exec .windowClose s = .next u → exec .tick s = exec .tick u) ∧
      (∀ a, s.plan.active[s.engine.nextSlot]? = some a → a.slot.openAt = s.timer.offset →
        exec .slotTake s = .next u → exec .tick s = exec .tick u)) ∧
    (Quiet { s with cyc := false } → s.timer.offset = 32 → exec .cycFall s = .next u →
      exec .tick s = exec .tick u) ∧
    (Quiet s → ∀ f rest, Takes s f rest → ∀ c ∈ requestSteps, exec c s = .next u → u.mgmt.input = rest →
      exec .tick s = exec .tick u))

/-- SLOT_TAKE (R81, R84 to R86, R88, R97, R98, R100): the slot whose OPEN the offset has reached is passed over, opened
or skipped, and the D transmitter arbiter decides. -/
def Obligations.SlotTakenAtOpen : Prop :=
  ∀ (s : State) (a : ActiveSlot), s.power = .running → s.plan.active[s.engine.nextSlot]? = some a →
    a.slot.openAt = s.timer.offset → (∀ w, s.engine.window = some w → w.closeAt ≠ s.timer.offset) →
    exec .slotTake s = .next (arbiterD (slotTaken a s))

/-- WINDOW_CLOSE (R87, R92, R93, R96, R98): the window whose CLOSE the offset has reached closes with its MISSED check.
Where the same offset is the OPEN of the next slot, that slot is taken after it in the same event. -/
def Obligations.WindowClosesAtClose : Prop :=
  ∀ (s : State) (w : Window), s.power = .running → s.engine.window = some w → w.closeAt = s.timer.offset →
    let v := windowClosed s
    ((∀ a, s.plan.active[s.engine.nextSlot]? = some a → a.slot.openAt ≠ s.timer.offset) →
      exec .windowClose s = .next (conclude s v)) ∧
    (∀ a, v.plan.active[s.engine.nextSlot]? = some a → a.slot.openAt = s.timer.offset →
      exec .windowClose s = .next (conclude s (slotTaken a v)) ∧
      exec .slotTake s = .next (conclude s (slotTaken a v)))

/-! ## The wrap -/

/-- The deviation of a capture (R63): its offset less the expected offset, MARK_OFFSET plus the adjustment of the
ending cycle, reduced by whole cycle lengths into minus CL/2 inclusive to CL/2 exclusive. -/
def Obligations.DeviationReduced : Prop :=
  ∀ (s : State) (c : Capture) (d : Int), 0 < s.timer.cl →
    (IsDeviation s c d ↔ deviation s.sync.settings (ending s) c = d)

/-- WRAP (R14, R56, R58, R84 to R87, R94, R97, R98): the new cycle begins at offset 0 with CYC high; the window that
stood is gone, and the next-slot position is 0. A slot with OPEN 0 is then taken at once, as the first event of the new
cycle, under the plan, the number and the gate that the wrap left: passed over, opened, or skipped. A transmission in
progress goes on: the tick that is the wrap passes on it, unless it has come already. The ports, the management unit and
the receive areas do not act. -/
def Obligations.WrapBeginsCycle : Prop :=
  ∀ (s : State) (order : List WrapAct), AtWrap s order →
    ∃ t, exec (.wrap order) s = .next t ∧
      t.timer.offset = 0 ∧ t.cyc = true ∧
      (let k := s.plan.counters
       let k' := t.plan.counters
       let noWindow := t.engine.window = none ∧ (s.engine.window ≠ none → t.win = false ∧ t.engine.request = false)
       (NoneAtZero t →
         t.engine.nextSlot = 0 ∧ noWindow ∧ k'.windowsOpened = k.windowsOpened ∧ k'.windowsSkipped = k.windowsSkipped) ∧
       (∀ a, t.plan.active.head? = some a → a.slot.openAt = 0 →
         let barred := t.engine.resumeOffset = some 0 ∧ 0 < a.slot.span
         t.engine.nextSlot = 1 ∧
         (¬ eligibleIn t.timer.cycle a →
           noWindow ∧ k'.windowsOpened = k.windowsOpened ∧ k'.windowsSkipped = k.windowsSkipped) ∧
         (eligibleIn t.timer.cycle a → gateOpen t = false ∨ barred →
           noWindow ∧ k'.windowsOpened = k.windowsOpened ∧ k'.windowsSkipped = k.windowsSkipped + 1) ∧
         (eligibleIn t.timer.cycle a → gateOpen t = true → ¬ barred →
           t.win = true ∧ k'.windowsOpened = k.windowsOpened + 1 ∧ k'.windowsSkipped = k.windowsSkipped ∧
           ∃ w, t.engine.window = some w ∧ w.position = 0 ∧ w.openAt = 0 ∧ w.closeAt = a.slot.span ∧
             w.stream = a.slot.stream ∧ w.quota = a.slot.quota ∧ w.once = a.slot.once ∧ w.released ≤ 1))) ∧
      t.engine.resumeOffset = (if s.plan.mode.holds = true ∧ s.plan.holdLimit ≠ 0 ∧
        s.plan.holdCount + 1 = s.plan.holdLimit then some 0 else none) ∧
      t.portU = s.portU ∧ t.portD = s.portD ∧ t.mgmt = s.mgmt ∧ t.markArea = s.markArea ∧ t.mgmtArea = s.mgmtArea ∧
      t.nodeAddr = s.nodeAddr ∧ t.power = s.power ∧ t.conditions = s.conditions ∧ t.pending = s.pending ∧
      (let left (n : Nat) := if s.timer.wrapping then n else n - 1
       (∀ x, s.txU = some x → t.txU = some { x with remaining := left x.remaining }) ∧
       (∀ x, s.txD = some x → t.txD = some { x with remaining := left x.remaining }))

/-- FREE (R66, R77): at a wrap the capture record is emptied unevaluated, no count changes, no trace record is appended,
the new cycle's number is one more and its length the L in force; and only a SYNC_CONFIG with ENABLE on leaves FREE, taken
by its own step or by a clock step that finds it waiting. That a clock step takes a waiting request is the model's choice
(log entry 4, DESIGN CHOICE; R129 names the events at which the unit takes one), and that an early completion is such a
step is log entry 14. -/
def Obligations.FreeMakesNoAdjustment : Prop :=
  (∀ (s : State) (order : List WrapAct), AtWrap s order → s.sync.mode = .free →
    ∃ t, exec (.wrap order) s = .next t ∧ t.timer = nextCycle s 0 ∧ t.sync = { s.sync with capture := none }) ∧
  (∀ (c : Instr) (s t : State), s.sync.mode = .free → exec c s = .next t →
    t.sync.mode = .free ∨
      (c = .syncConfig ∨ ClockStep c) ∧ t.sync.settings.enable = true ∧
        ∃ f ∈ s.mgmt.input, destOf f ≠ 127 ∧ (payloadOf f).head? = some 0x11)

/-- A wrap in ACQUIRE (R57, R65, R67, R68, R74): a good capture corrects and counts toward LOCKED at 4; any other
capture steps the cycle number and length; an empty record leaves only the good count at 0. -/
def Obligations.AcquireWrapEvaluates : Prop :=
  ∀ (s : State) (order : List WrapAct), AtWrap s order → s.sync.mode = .acquire →
    let k := s.sync.counts
    let n := s.sync.counters
    ∃ t, exec (.wrap order) s = .next t ∧
      (∀ c d, s.sync.capture = some c → IsDeviation s c d → GoodCapture s c d → k.good < 3 →
        SyncedTo s t .acquire { k with good := k.good + 1 } n (nextCycle s (clamped s d)) false true d) ∧
      (∀ c d, s.sync.capture = some c → IsDeviation s c d → GoodCapture s c d → 3 ≤ k.good →
        SyncedTo s t .locked { good := 4, miss := 0, excursion := 0, holdover := 0 } n
          (nextCycle s (clamped s d)) false true d) ∧
      (∀ c d, s.sync.capture = some c → IsDeviation s c d → ¬ GoodCapture s c d →
        SyncedTo s t .acquire { k with good := 0 } { n with steps := n.steps + 1 } (steppedCycle s c d) true true d) ∧
      (s.sync.capture = none → SyncedTo s t .acquire { k with good := 0 } n (nextCycle s 0) false false 0)

/-- A wrap in LOCKED (R57, R65, R69, R70, R74), and MISS_LIMIT_REACHED, which is that wrap where the miss count reaches
MISS_LIMIT: a matching capture corrects; a second excursion or a mismatch loses the lock; an empty record is a miss. -/
def Obligations.LockedWrapEvaluates : Prop :=
  ∀ (s : State) (order : List WrapAct) (c : Instr), AtWrap s order → s.sync.mode = .locked →
    let k := s.sync.counts
    let n := s.sync.counters
    let limit := s.sync.capture = none ∧ s.sync.settings.missLimit ≤ k.miss + 1
    c = .wrap order ∨ c = .missLimitReached order ∧ limit →
    ∃ t, exec c s = .next t ∧
      (∀ c d, s.sync.capture = some c → IsDeviation s c d → GoodCapture s c d →
        SyncedTo s t .locked { k with miss := 0, excursion := 0 } n (nextCycle s (clamped s d)) false true d) ∧
      (∀ c d, s.sync.capture = some c → IsDeviation s c d → c.markNumber = s.timer.cycle → ¬ GoodCapture s c d →
        k.excursion = 0 →
        SyncedTo s t .locked { k with miss := 0, excursion := 1 } n (nextCycle s (clamped s d)) false true d) ∧
      (∀ c d, s.sync.capture = some c → IsDeviation s c d →
        c.markNumber ≠ s.timer.cycle ∨ ¬ GoodCapture s c d ∧ k.excursion ≠ 0 →
        SyncedTo s t .acquire {} { n with lockLosses := n.lockLosses + 1 } (nextCycle s 0) false false d) ∧
      (s.sync.capture = none → ¬ limit →
        SyncedTo s t .locked { k with miss := k.miss + 1 } { n with misses := n.misses + 1 } (nextCycle s 0)
          false false 0) ∧
      (limit →
        SyncedTo s t .holdover { k with miss := k.miss + 1, holdover := 0 } { n with misses := n.misses + 1 }
          (nextCycle s 0) false false 0)

/-- A wrap in HOLDOVER (R57, R65, R71, R74), and HOLDOVER_LIMIT_REACHED, which is that wrap where the holdover count
reaches HOLDOVER_LIMIT: a good capture returns to LOCKED, any other goes to ACQUIRE, an empty record counts. -/
def Obligations.HoldoverWrapEvaluates : Prop :=
  ∀ (s : State) (order : List WrapAct) (c : Instr), AtWrap s order → s.sync.mode = .holdover →
    let k := s.sync.counts
    let n := s.sync.counters
    let limit := s.sync.capture = none ∧ s.sync.settings.holdoverLimit ≤ k.holdover + 1
    c = .wrap order ∨ c = .holdoverLimitReached order ∧ limit →
    ∃ t, exec c s = .next t ∧
      (∀ c d, s.sync.capture = some c → IsDeviation s c d → GoodCapture s c d →
        SyncedTo s t .locked { good := 4, miss := 0, excursion := 0, holdover := 0 } n
          (nextCycle s (clamped s d)) false true d) ∧
      (∀ c d, s.sync.capture = some c → IsDeviation s c d → ¬ GoodCapture s c d →
        SyncedTo s t .acquire {} { n with lockLosses := n.lockLosses + 1 } (nextCycle s 0) false false d) ∧
      (s.sync.capture = none → ¬ limit →
        SyncedTo s t .holdover { k with holdover := k.holdover + 1 } n (nextCycle s 0) false false 0) ∧
      (limit →
        SyncedTo s t .acquire {} { n with lockLosses := n.lockLosses + 1 } (nextCycle s 0) false false 0)

/-- A change of sync state at a wrap is reported (R65, R150, R153): in an addressed part with SYNC_STATE enabled and
room in the note queue, a record holds the old and the new state and the new cycle's number. The sync unit acts first
here, which is the model's order where a command names none (log entry 3). -/
def Obligations.SyncChangeReportedAtWrap : Prop :=
  ∀ s : State, AtWrap s [] → HasAddress s → s.notes.mask.getLsbD 5 = true → s.notes.queue.length < 16 →
    ∃ t, exec (.wrap []) s = .next t ∧
      (t.sync.mode ≠ s.sync.mode →
        ∃ r ∈ t.notes.queue, r.occ = .syncState s.sync.mode t.sync.mode ∧ r.first = t.timer.cycle)

/-- Ageing at a wrap (R44), and STALE_REMOVAL, which is a wrap that makes a held frame stale: every held frame of a
valid entry grows one wrap older, those past AGE_LIMIT leave and are counted, and their buffers are FREE; nothing else of
an entry changes but its MISSED count, and that the head may be released by a window that opens at OPEN 0 (R87, R89). -/
def Obligations.WrapAgesHeldFrames : Prop :=
  ∀ (s : State) (order : List WrapAct) (c : Instr), AtWrap s order → PoolLaws s →
    c = .wrap order ∨ c = .staleRemoval order ∧
      (∃ i : StreamId, (s.stream i).valid = true ∧
        ∃ r ∈ (s.stream i).queue, stays (s.stream i).ageLimit (older r) = false) →
    ∃ t, exec c s = .next t ∧ ∀ i : StreamId,
      let x := s.stream i
      let y := t.stream i
      y =
        { x with
          queue := y.queue
          counters := { x.counters with stale := y.counters.stale, missed := y.counters.missed } } ∧
      (x.valid = false → y.queue = x.queue ∧ y.counters.stale = x.counters.stale) ∧
      (x.valid = true →
        (y.queue = agedQueue x ∨
          ¬ NoneAtZero t ∧ s.txD = none ∧
            ∃ h bytes, agedQueue x = h :: y.queue ∧ t.txD = begun (.release h.buffer (some i)) bytes) ∧
        y.counters.stale = x.counters.stale + BitVec.ofNat 32 (x.queue.length - (agedQueue x).length) ∧
        ∀ r ∈ x.queue, stays x.ageLimit (older r) = false → t.pool[r.buffer] = {})

/-- Plan control at a wrap (R116, R117, R124, R125), and HOLD_EXPIRY, which is a wrap where the hold count reaches its
limit: the hold expires; or a pending switch whose target is met makes the staged plan and L the active ones; or only
the counts move. The two window counts are those of the take at OPEN 0 (R85 to R87). -/
def Obligations.PlanActsAtWrap : Prop :=
  ∀ (s : State) (order : List WrapAct) (c : Instr), AtWrap s order →
    c = .wrap order ∨ c = .holdExpiry order ∧ ExpiresNext s →
    let p := s.plan
    let guard := if p.resumeGuard < 2 then p.resumeGuard + 1 else 2
    ∃ t, exec c s = .next t ∧
      let counted : PlanCounters :=
        { p.counters with
          windowsOpened := t.plan.counters.windowsOpened
          windowsSkipped := t.plan.counters.windowsSkipped }
      (ExpiresNext s →
        t.plan =
          { p with
            active := activeAfterClose s
            mode := if p.mode = .held then .steady else .pending
            holdLimit := 0
            holdCount := 0
            resumeGuard := 0
            counters := { counted with holdExpiries := p.counters.holdExpiries + 1 } }) ∧
      (¬ ExpiresNext s → switchesInto s t.timer.cycle = true →
        t.plan =
          { p with
            active := p.staged.map fun x => { slot := x, spent := false }
            activeL := p.stagedL
            mode := .steady
            target := .none
            resumeGuard := guard
            counters := { counted with switchesDone := p.counters.switchesDone + 1 } }) ∧
      (¬ ExpiresNext s → switchesInto s t.timer.cycle = false →
        t.plan =
          { p with
            active := activeAfterClose s
            holdCount := if holding p = true ∧ p.holdLimit ≠ 0 then p.holdCount + 1 else p.holdCount
            resumeGuard := guard
            counters := counted })

/-- A window that stands at a wrap (R45, R92, R94, R96): it ends, so that none stands after the wrap unless a slot at
OPEN 0 opens one; and MISSED counts if it was OPEN with frames held and
the sync unit did not shut the gate before it. A command may let the close, or the ageing of the window's stream, come
first (R45); with neither named the sync unit acts first, which is the model's order (log entry 3). -/
def Obligations.WindowEndsAtWrap : Prop :=
  ∀ (s : State) (w : Window) (order : List WrapAct), AtWrap s order → s.engine.window = some w → gateOpen s = true →
    let x := s.stream w.stream
    order = [] ∨ order = [.close] ∨ order = [.age w.stream] →
    ∃ t, exec (.wrap order) s = .next t ∧
      (NoneAtZero t → t.engine.window = none ∧ t.win = false ∧ t.engine.request = false) ∧
      let shut := closedBySync t
      let missed :=
        decide (w.phase = .opened) &&
          (if order = [.close] then decide (x.queue ≠ [])
           else if order = [] then !shut && decide (x.queue ≠ [])
           else !shut && decide ((if x.valid then agedQueue x else x.queue) ≠ []))
      (t.stream w.stream).counters.missed = (if missed then x.counters.missed + 1 else x.counters.missed)

/-- The head note's wait at a wrap (R160), and NOTE_TIMEOUT, which is a wrap where WAIT reaches RETRY: it goes on
waiting; or it is offered again, its NOTE_SEQ kept; or after its third transmission it is abandoned and the others
stay in order. -/
def Obligations.NoteWaitsAtWrap : Prop :=
  ∀ (s : State) (order : List WrapAct) (c : Instr) (r : NoteRecord) (q : List NoteRecord), AtWrap s order →
    NotesOrdered s.notes → s.notes.queue = r :: q → r.state = .awaitingAck →
    c = .wrap order ∨ c = .noteTimeout order ∧ s.notes.retry ≤ r.wait + 1 →
    ∃ t, exec c s = .next t ∧
      (r.wait + 1 < s.notes.retry →
        ∃ q', t.notes.queue = { r with wait := r.wait + 1 } :: q' ∧ q.map noteKey <+: q'.map noteKey) ∧
      (s.notes.retry ≤ r.wait + 1 → r.attempts < 3 →
        ∃ r' q', t.notes.queue = r' :: q' ∧ q.map noteKey <+: q'.map noteKey ∧
          r'.occ = r.occ ∧ r'.seq = r.seq ∧ r'.first = r.first ∧ r'.last = r.last ∧ r'.count = r.count ∧
          (r'.state = .waiting ∧ r'.attempts = r.attempts ∨
            r'.state = .sending ∧ r'.attempts = r.attempts + 1 ∧ s.txU = none)) ∧
      (s.notes.retry ≤ r.wait + 1 → 3 ≤ r.attempts →
        q.map noteKey <+: t.notes.queue.map noteKey ∧
        t.notes.counters.notesAbandoned = s.notes.counters.notesAbandoned + 1)

/-! ## Requests -/

/-- IDENT and SYNC_READ (R78, R138): answered OK with the fields of R145, and nothing else changes. -/
def Obligations.IdentAndSyncReadAnswer : Prop :=
  ∀ (s : State) (f : FrameBytes) (rest : List FrameBytes), Addressed s f →
    (Request s f rest 0x01 [] →
      exec .ident s =
        .next (offered s (answered s f rest 0x01 { status := 0, result := identResult s, state := s }))) ∧
    (Request s f rest 0x12 [] →
      exec .syncRead s =
        .next (offered s (answered s f rest 0x12 { status := 0, result := syncReadResult s, state := s })))

/-- STREAM_READ and SLOT_READ (R50, R111): the checks in order and the whole result, no state changed but the
answer. -/
def Obligations.StreamReadAndSlotReadAnswer : Prop :=
  ∀ (s : State) (f : FrameBytes) (rest : List FrameBytes), Addressed s f →
    (∀ i : Byte, Request s f rest 0x05 [i] →
      exec .streamRead s = .next (offered s (answered s f rest 0x05 (streamReadVerdict i s)))) ∧
    (∀ plan pos : Byte, Request s f rest 0x09 [plan, pos] →
      exec .slotRead s = .next (offered s (answered s f rest 0x09 (slotReadVerdict plan pos s))))

/-- TRACE_READ (R75, R132, R133): entries from the ring in parts of two; the parts fill the outbox and wait in the part
store. That a written entry has 0 in bits 4 to 6 of its FLAGS byte is the model's choice (log entry 15, DESIGN CHOICE). -/
def Obligations.TraceReadAnswersInParts : Prop :=
  ∀ (s : State) (f : FrameBytes) (rest : List FrameBytes) (start count : Byte), Addressed s f →
    Request s f rest 0x13 [start, count] →
    (31 < start.toNat ∨ count.toNat < 1 ∨ 8 < count.toNat →
      exec .traceRead s = .next (offered s (answered s f rest 0x13 (refused 3 s)))) ∧
    (start.toNat ≤ 31 → 1 ≤ count.toNat → count.toNat ≤ 8 →
      exec .traceRead s =
        .next
          (offered s
            (answeredInParts s f rest
              ((List.range ((count.toNat + 1) / 2)).map fun k =>
                replyBytes s.nodeAddr (tagOf f) 0x13 0 (tracePart s.sync start.toNat count.toNat k)))))

/-- COUNT_READ (R164, R166, R167): the snapshot of a group's counters, which become 0; ARG for no group, ABSENT for the
group of an invalid entry. -/
def Obligations.CountReadSnapshots : Prop :=
  ∀ (s : State) (f : FrameBytes) (rest : List FrameBytes) (g : Byte), Addressed s f → Request s f rest 0x14 [g] →
    exec .countRead s = .next (offered s (answered s f rest 0x14 (countReadVerdict g s)))

/-- STREAM_WRITE (R36, R46): the checks in order; a valid entry keeps its queue and counters, an invalid one starts
anew. -/
def Obligations.StreamWriteConfigures : Prop :=
  ∀ (s : State) (f : FrameBytes) (rest : List FrameBytes) (i th tl depth policy age : Byte), Addressed s f →
    Request s f rest 0x02 [i, th, tl, depth, policy, age] →
    exec .streamWrite s =
      .next (offered s (answered s f rest 0x02 (streamWriteVerdict i th tl depth policy age s)))

/-- STREAM_DELETE, STREAM_LOCK and STREAM_PURGE (R43, R47, R48, R52, R91): the checks in order; the held frames
removed, a standing request withdrawn, and a deleted entry's release on the line detached; or LOCKED set. -/
def Obligations.StreamDeleteLockPurge : Prop :=
  ∀ (s : State) (f : FrameBytes) (rest : List FrameBytes) (i : Byte), Addressed s f →
    (Request s f rest 0x03 [i] →
      exec .streamDelete s = .next (offered s (answered s f rest 0x03 (streamDeleteVerdict i s)))) ∧
    (Request s f rest 0x04 [i] →
      exec .streamLock s = .next (offered s (answered s f rest 0x04 (streamLockVerdict i s)))) ∧
    (Request s f rest 0x06 [i] →
      exec .streamPurge s = .next (offered s (answered s f rest 0x06 (streamPurgeVerdict i s))))

/-- SLOT_ADD (R104 to R106): an argument out of range is refused with ARG; otherwise, on a staged plan that keeps its
ordering law, the checks in order and the slot placed by its OPEN. -/
def Obligations.SlotAddPlaces : Prop :=
  ∀ (s : State) (f : FrameBytes) (rest : List FrameBytes)
    (o3 o2 o1 o0 p1 p0 stream quota every phase once : Byte), Addressed s f →
    Request s f rest 0x07 [o3, o2, o1, o0, p1, p0, stream, quota, every, phase, once] →
    let inRange :=
      word4 o3 o2 o1 o0 ≤ 1999999 ∧ 8 ≤ word2 p1 p0 ∧ stream.toNat < 32 ∧ 1 ≤ quota.toNat ∧ quota.toNat ≤ 4 ∧
        every.toNat ∈ [1, 2, 4, 8] ∧ phase.toNat < every.toNat ∧ once.toNat ≤ 1
    (¬ inRange → exec .slotAdd s = .next (offered s (answered s f rest 0x07 (refused 3 s)))) ∧
    (∀ h : stream.toNat < 32, inRange → PlanOrdered s.plan.staged →
      exec .slotAdd s =
        .next
          (offered s
            (answered s f rest 0x07
              (slotAddVerdict
                { openAt := word4 o3 o2 o1 o0, span := word2 p1 p0, stream := ⟨stream.toNat, h⟩,
                  quota := quota.toNat, every := every.toNat, phase := phase.toNat, once := decide (once = 1) }
                s))))

/-- SLOT_DROP, STAGE_EMPTY, STAGE_FROM_ACTIVE and CYCLE_STAGE (R105, R107 to R110), on a staged plan that keeps its
ordering law. -/
def Obligations.StagedEditsApply : Prop :=
  ∀ (s : State) (f : FrameBytes) (rest : List FrameBytes), Addressed s f →
    (∀ o3 o2 o1 o0 : Byte, PlanOrdered s.plan.staged → Request s f rest 0x08 [o3, o2, o1, o0] →
      exec .slotDrop s =
        .next (offered s (answered s f rest 0x08 (slotDropVerdict (word4 o3 o2 o1 o0) s)))) ∧
    (Request s f rest 0x0A [] →
      exec .stageEmpty s = .next (offered s (answered s f rest 0x0A (stageEmptyVerdict s)))) ∧
    (Request s f rest 0x0B [] →
      exec .stageFromActive s = .next (offered s (answered s f rest 0x0B (stageFromActiveVerdict s)))) ∧
    (∀ l3 l2 l1 l0 : Byte, Request s f rest 0x0C [l3, l2, l1, l0] →
      exec .cycleStage s =
        .next (offered s (answered s f rest 0x0C (cycleStageVerdict (word4 l3 l2 l1 l0) s))))

/-- SWITCH and WITHDRAW (R112 to R115, R120): the checks in order, the verification of the staged plan, the target; and
the target withdrawn. -/
def Obligations.SwitchAndWithdraw : Prop :=
  ∀ (s : State) (f : FrameBytes) (rest : List FrameBytes), Addressed s f →
    (∀ mode n3 n2 n1 n0 : Byte, Request s f rest 0x0D [mode, n3, n2, n1, n0] →
      exec .switch s =
        .next (offered s (answered s f rest 0x0D (switchVerdict mode (word4 n3 n2 n1 n0) s)))) ∧
    (Request s f rest 0x0E [] →
      exec .withdraw s = .next (offered s (answered s f rest 0x0E (withdrawVerdict s))))

/-- HOLD and RESUME (R96, R97, R100, R121, R122): the checks, the gate shut with a standing window ended or the gate
open at the resume offset, and the D transmitter arbiter where the gate changed. -/
def Obligations.HoldAndResume : Prop :=
  ∀ (s : State) (f : FrameBytes) (rest : List FrameBytes), Addressed s f →
    (∀ limit : Byte, Request s f rest 0x0F [limit] →
      exec .hold s = .next (offered s (gateInvokes s (answered s f rest 0x0F (holdVerdict limit s))))) ∧
    (Request s f rest 0x10 [] →
      exec .resume s = .next (offered s (gateInvokes s (answered s f rest 0x10 (resumeVerdict s)))))

/-- SYNC_CONFIG (R64, R65, R73, R76, R77, R96): ARG for a setting out of range; otherwise BUSY, the TAIL check, and all
settings replaced with the change of state, its report, and the end of a standing window where the gate shuts. -/
def Obligations.SyncConfigReplaces : Prop :=
  ∀ (s : State) (f : FrameBytes) (rest : List FrameBytes)
    (en m3 m2 m1 m0 w1 w0 l1 l0 miss hold lost : Byte), Addressed s f →
    Request s f rest 0x11 [en, m3, m2, m1, m0, w1, w0, l1, l0, miss, hold, lost] →
    let inRange :=
      en.toNat ≤ 1 ∧ word4 m3 m2 m1 m0 ≤ 1999999 ∧ 1 ≤ word2 w1 w0 ∧ word2 w1 w0 ≤ 4095 ∧ 1 ≤ word2 l1 l0 ∧
        word2 l1 l0 ≤ 1023 ∧ 1 ≤ miss.toNat ∧ miss.toNat ≤ 15 ∧ 1 ≤ hold.toNat ∧ lost.toNat ≤ 1
    (¬ inRange → exec .syncConfig s = .next (offered s (answered s f rest 0x11 (refused 3 s)))) ∧
    (inRange →
      exec .syncConfig s =
        .next
          (conclude s
            (answered s f rest 0x11
              (syncConfigVerdict
                { enable := decide (en = 1), markOffset := word4 m3 m2 m1 m0, lockWindow := word2 w1 w0,
                  slewLimit := word2 l1 l0, missLimit := miss.toNat, holdoverLimit := hold.toNat,
                  lostPolicy := if lost = 0 then .continue else .close }
                s))))

/-- NOTE_ACK (R155, R161): the record that bears the NOTE_SEQ leaves the note queue, or ABSENT. The premise is the
invariant of the note queue: at most 16 records, of which only the oldest can have been sent. -/
def Obligations.NoteAckRemoves : Prop :=
  ∀ (s : State) (f : FrameBytes) (rest : List FrameBytes) (q : Byte), Addressed s f → NoteLaws s →
    Request s f rest 0x15 [q] →
    exec .noteAck s = .next (conclude s (answered s f rest 0x15 (noteAckVerdict q s)))

/-- NOTE_CONFIG and PASS_CONFIG (R139, R152): ARG for a value out of range, else the settings are replaced. -/
def Obligations.NoteConfigAndPassConfig : Prop :=
  ∀ (s : State) (f : FrameBytes) (rest : List FrameBytes), Addressed s f →
    (∀ m1 m0 retry : Byte, Request s f rest 0x16 [m1, m0, retry] →
      exec .noteConfig s = .next (offered s (answered s f rest 0x16 (noteConfigVerdict m1 m0 retry s)))) ∧
    (∀ policy g1 g0 : Byte, Request s f rest 0x17 [policy, g1, g0] →
      exec .passConfig s = .next (offered s (answered s f rest 0x17 (passConfigVerdict policy g1 g0 s))))

/-- RESTART (R128, R140): the OK reply is placed and the unit is RESTARTING; nothing else changes until the reply
completes. -/
def Obligations.RestartAccepted : Prop :=
  ∀ (s : State) (f : FrameBytes) (rest : List FrameBytes), Addressed s f → Request s f rest 0x18 [] →
    let r := replyBytes s.nodeAddr (tagOf f) 0x18 0 []
    exec .restart s =
      .next
        (offered s
          { s with
            mgmt :=
              { s.mgmt with
                mode := .restarting
                input := rest
                outbox := s.mgmt.outbox ++ [{ bytes := r, ofRestart := true }]
                cache := some { tag := tagOf f, payload := payloadOf f, replies := [r] }
                counters := { s.mgmt.counters with requestsExecuted := s.mgmt.counters.requestsExecuted + 1 } } })

/-- The common checks (R130): UNKNOWN for an undefined OP and for a request without one, its OP echo then 0; LENGTH for
a request of the table with a LEN other than its own. -/
def Obligations.CommonChecksRefuse : Prop :=
  ∀ (s : State) (f : FrameBytes) (rest : List FrameBytes), Addressed s f →
    (∀ (op : Byte) (args : List Byte), op = 0 ∨ 0x18 < op.toNat → Request s f rest op args →
      exec .unknownRequest s = .next (offered s (answered s f rest op (refused 12 s)))) ∧
    (Takes s f rest → payloadOf f = [] →
      exec .unknownRequest s = .next (offered s (answered s f rest 0 (refused 12 s)))) ∧
    (∀ (k : Nat) (c : Instr) (len : Nat) (args : List Byte), requestTable[k]? = some (c, len) → lenOf f ≠ len →
      Request s f rest (BitVec.ofNat 8 (k + 1)) args →
      exec c s = .next (offered s (answered s f rest (BitVec.ofNat 8 (k + 1)) (refused 13 s))))

/-- REQUEST_REPLAY and BROADCAST_IGNORE (R129, R135, R137): a copy of the cached request has the cached frames placed
again and executes nothing; a broadcast request that broadcast does not execute is counted and has no answer. A unit that
is STALLED or RESTARTING takes no request, whichever it is (R128, R140). -/
def Obligations.ReplayAndIgnore : Prop :=
  (∀ s : State, s.mgmt.mode = .stalled ∨ s.mgmt.mode = .restarting → ∀ c ∈ requestSteps, exec c s = .next s) ∧
  ∀ (s : State) (f : FrameBytes) (rest : List FrameBytes), Takes s f rest →
    (∀ e : CacheEntry, destOf f ≠ 127 → s.mgmt.cache = some e → e.tag = tagOf f → e.payload = payloadOf f →
      e.replies ≠ [] →
      let replies := e.replies.map fun b => ({ bytes := b, ofRestart := false } : Reply)
      exec .requestReplay s =
        .next
          (offered s
            { s with
              mgmt :=
                { s.mgmt with
                  mode := if s.mgmt.outbox.length + replies.length < 2 then .ready else .stalled
                  input := rest
                  outbox := s.mgmt.outbox ++ replies.take (2 - s.mgmt.outbox.length)
                  parts := replies.drop (2 - s.mgmt.outbox.length)
                  counters := { s.mgmt.counters with replays := s.mgmt.counters.replays + 1 } } })) ∧
    (destOf f = 127 → (∀ op args, payloadOf f = op :: args → op ∉ [0x0D, 0x0E, 0x0F, 0x10]) →
      exec .broadcastIgnore s =
        .next
          { s with
            mgmt :=
              { s.mgmt with
                input := rest
                counters :=
                  { s.mgmt.counters with broadcastIgnored := s.mgmt.counters.broadcastIgnored + 1 } } })

/-- SWITCH, WITHDRAW, HOLD and RESUME by broadcast (R130, R136): executed as when addressed, but with no reply and no entry
in the cache; a refusal, LENGTH for a wrong LEN among them, is reported as a BROADCAST_REFUSED occurrence. -/
def Obligations.BroadcastExecutesFour : Prop :=
  ∀ (s : State) (f : FrameBytes) (rest : List FrameBytes), destOf f = 127 →
    (∀ mode n3 n2 n1 n0 : Byte, Request s f rest 0x0D [mode, n3, n2, n1, n0] →
      exec .switch s =
        .next (conclude s (broadcastAnswered rest 0x0D (switchVerdict mode (word4 n3 n2 n1 n0) s)))) ∧
    (Request s f rest 0x0E [] →
      exec .withdraw s = .next (conclude s (broadcastAnswered rest 0x0E (withdrawVerdict s)))) ∧
    (∀ limit : Byte, Request s f rest 0x0F [limit] →
      exec .hold s = .next (conclude s (broadcastAnswered rest 0x0F (holdVerdict limit s)))) ∧
    (Request s f rest 0x10 [] →
      exec .resume s = .next (conclude s (broadcastAnswered rest 0x10 (resumeVerdict s)))) ∧
    (∀ (c : Instr) (op : Byte) (len : Nat) (args : List Byte), (c, op, len) ∈ broadcastTable → lenOf f ≠ len →
      Request s f rest op args →
      exec c s = .next (conclude s (broadcastAnswered rest op (refused 13 s))))

/-! ## Invariants that every step keeps -/

/-- Every step keeps the capacities of the stores, the queues and the note queue, the bounds of the power-on counts, and
the management unit's coherence (R25, R27, R127, R128, R132, R133, R148, R172). -/
def Obligations.CapacitiesKept : Prop := ∀ s s' : State, Capacities s → step s = .next s' → Capacities s'

/-- Every step keeps the laws of the stream table: the ranges of R36, at most DEPTH held frames, an invalid entry empty
and not LOCKED, no two valid entries with one TAG (R35, R36, R37, R46). -/
def Obligations.StreamTableKept : Prop := ∀ s s' : State, StreamTable s → step s = .next s' → StreamTable s'

/-- Every step keeps the laws of the two plans: the ordering law and the ranges, every active slot naming a valid
entry, the target and the hold fields coherent with the plan state (R104, R105, R112, R114). -/
def Obligations.PlanLawsKept : Prop := ∀ s s' : State, PlanLaws s → step s = .next s' → PlanLaws s'

/-- Every step keeps the laws of the window record: RELEASED within QUOTA, a request only while it is justified, no
window while the gate is shut, WIN high exactly while a window stands (R83, R86, R88, R91, R96, R98). -/
def Obligations.WindowLawsKept : Prop := ∀ s s' : State, WindowLaws s → step s = .next s' → WindowLaws s'

/-- Every step keeps the laws of the note queue: only the oldest record can have been sent, at most three times, and
the lost tally is above 0 only while the queue is full (R148, R149, R154, R155, R160). -/
def Obligations.NoteLawsKept : Prop := ∀ s s' : State, NoteLaws s → step s = .next s' → NoteLaws s'

/-- Every step keeps the law of R72 on the length of a cycle in LOCKED and HOLDOVER, with the ranges of R64 and R104,
and the offset below CL, at the last one when the tick that is the wrap has come (R55). -/
def Obligations.LengthLawsKept : Prop := ∀ s s' : State, LengthLaws s → step s = .next s' → LengthLaws s'

/-- Every step keeps the pool owned as R19 has it: while the part runs, each buffer that is not FREE has exactly one
holder, the one its state names. -/
def Obligations.PoolOwnershipKept : Prop := ∀ s s' : State, PoolLaws s → step s = .next s' → PoolLaws s'

/-- Every step leaves no transmitter idle beside a waiting candidate that needs no guard: with its line UP, an IDLE
port U has no returned frame, reply or note to send, and an IDLE port D no mark and no request (R31, R32, R99, R100). -/
def Obligations.NoCandidateIdleKept : Prop := ∀ s s' : State, NoCandidateIdle s → step s = .next s' → NoCandidateIdle s'
end

