-- ==== Sys2Proof/Laws/State.lean ====
section
/-! SUPPORT. Laws/State.lean: for each update of the state, what every field reads after it. -/

namespace Sys2Proof.Machine

/-! ### Ports -/

@[simp] theorem setPort_port_self (s : State) (p : Port) (x : PortState) : (s.setPort p x).port p = x := by
  cases p <;> rfl

@[simp] theorem setPort_u_portU (s : State) (x : PortState) : (s.setPort .u x).portU = x := rfl

@[simp] theorem setPort_u_portD (s : State) (x : PortState) : (s.setPort .u x).portD = s.portD := rfl

@[simp] theorem setPort_d_portD (s : State) (x : PortState) : (s.setPort .d x).portD = x := rfl

@[simp] theorem setPort_d_portU (s : State) (x : PortState) : (s.setPort .d x).portU = s.portU := rfl

@[simp] theorem setPort_setPort (s : State) (p : Port) (x y : PortState) :
    (s.setPort p x).setPort p y = s.setPort p y := by cases p <;> rfl

@[simp] theorem port_u (s : State) : s.port .u = s.portU := rfl

@[simp] theorem port_d (s : State) : s.port .d = s.portD := rfl

@[simp] theorem setPort_power (s : State) (p : Port) (x : PortState) : (s.setPort p x).power = s.power := by
  cases p <;> rfl

@[simp] theorem setPort_conditions (s : State) (p : Port) (x : PortState) : (s.setPort p x).conditions = s.conditions := by
  cases p <;> rfl

@[simp] theorem setPort_nodeAddr (s : State) (p : Port) (x : PortState) : (s.setPort p x).nodeAddr = s.nodeAddr := by
  cases p <;> rfl

@[simp] theorem setPort_cyc (s : State) (p : Port) (x : PortState) : (s.setPort p x).cyc = s.cyc := by
  cases p <;> rfl

@[simp] theorem setPort_win (s : State) (p : Port) (x : PortState) : (s.setPort p x).win = s.win := by
  cases p <;> rfl

@[simp] theorem setPort_txU (s : State) (p : Port) (x : PortState) : (s.setPort p x).txU = s.txU := by
  cases p <;> rfl

@[simp] theorem setPort_txD (s : State) (p : Port) (x : PortState) : (s.setPort p x).txD = s.txD := by
  cases p <;> rfl

@[simp] theorem setPort_markArea (s : State) (p : Port) (x : PortState) : (s.setPort p x).markArea = s.markArea := by
  cases p <;> rfl

@[simp] theorem setPort_mgmtArea (s : State) (p : Port) (x : PortState) : (s.setPort p x).mgmtArea = s.mgmtArea := by
  cases p <;> rfl

@[simp] theorem setPort_pool (s : State) (p : Port) (x : PortState) : (s.setPort p x).pool = s.pool := by
  cases p <;> rfl

@[simp] theorem setPort_stores (s : State) (p : Port) (x : PortState) : (s.setPort p x).stores = s.stores := by
  cases p <;> rfl

@[simp] theorem setPort_streams (s : State) (p : Port) (x : PortState) : (s.setPort p x).streams = s.streams := by
  cases p <;> rfl

@[simp] theorem setPort_timer (s : State) (p : Port) (x : PortState) : (s.setPort p x).timer = s.timer := by
  cases p <;> rfl

@[simp] theorem setPort_sync (s : State) (p : Port) (x : PortState) : (s.setPort p x).sync = s.sync := by
  cases p <;> rfl

@[simp] theorem setPort_engine (s : State) (p : Port) (x : PortState) : (s.setPort p x).engine = s.engine := by
  cases p <;> rfl

@[simp] theorem setPort_plan (s : State) (p : Port) (x : PortState) : (s.setPort p x).plan = s.plan := by
  cases p <;> rfl

@[simp] theorem setPort_mgmt (s : State) (p : Port) (x : PortState) : (s.setPort p x).mgmt = s.mgmt := by
  cases p <;> rfl

@[simp] theorem setPort_notes (s : State) (p : Port) (x : PortState) : (s.setPort p x).notes = s.notes := by
  cases p <;> rfl

@[simp] theorem setPort_pending (s : State) (p : Port) (x : PortState) : (s.setPort p x).pending = s.pending := by
  cases p <;> rfl

/-! ### `setBuf` -/

@[simp] theorem setBuf_power (b : BufId) (x : Buffer) (s : State) : (setBuf b x s).power = s.power := rfl

@[simp] theorem setBuf_conditions (b : BufId) (x : Buffer) (s : State) : (setBuf b x s).conditions = s.conditions := rfl

@[simp] theorem setBuf_nodeAddr (b : BufId) (x : Buffer) (s : State) : (setBuf b x s).nodeAddr = s.nodeAddr := rfl

@[simp] theorem setBuf_cyc (b : BufId) (x : Buffer) (s : State) : (setBuf b x s).cyc = s.cyc := rfl

@[simp] theorem setBuf_win (b : BufId) (x : Buffer) (s : State) : (setBuf b x s).win = s.win := rfl

@[simp] theorem setBuf_portU (b : BufId) (x : Buffer) (s : State) : (setBuf b x s).portU = s.portU := rfl

@[simp] theorem setBuf_portD (b : BufId) (x : Buffer) (s : State) : (setBuf b x s).portD = s.portD := rfl

@[simp] theorem setBuf_txU (b : BufId) (x : Buffer) (s : State) : (setBuf b x s).txU = s.txU := rfl

@[simp] theorem setBuf_txD (b : BufId) (x : Buffer) (s : State) : (setBuf b x s).txD = s.txD := rfl

@[simp] theorem setBuf_markArea (b : BufId) (x : Buffer) (s : State) : (setBuf b x s).markArea = s.markArea := rfl

@[simp] theorem setBuf_mgmtArea (b : BufId) (x : Buffer) (s : State) : (setBuf b x s).mgmtArea = s.mgmtArea := rfl

@[simp] theorem setBuf_pool (b : BufId) (x : Buffer) (s : State) : (setBuf b x s).pool = s.pool.set b x := rfl

@[simp] theorem setBuf_stores (b : BufId) (x : Buffer) (s : State) : (setBuf b x s).stores = s.stores := rfl

@[simp] theorem setBuf_streams (b : BufId) (x : Buffer) (s : State) : (setBuf b x s).streams = s.streams := rfl

@[simp] theorem setBuf_timer (b : BufId) (x : Buffer) (s : State) : (setBuf b x s).timer = s.timer := rfl

@[simp] theorem setBuf_sync (b : BufId) (x : Buffer) (s : State) : (setBuf b x s).sync = s.sync := rfl

@[simp] theorem setBuf_engine (b : BufId) (x : Buffer) (s : State) : (setBuf b x s).engine = s.engine := rfl

@[simp] theorem setBuf_plan (b : BufId) (x : Buffer) (s : State) : (setBuf b x s).plan = s.plan := rfl

@[simp] theorem setBuf_mgmt (b : BufId) (x : Buffer) (s : State) : (setBuf b x s).mgmt = s.mgmt := rfl

@[simp] theorem setBuf_notes (b : BufId) (x : Buffer) (s : State) : (setBuf b x s).notes = s.notes := rfl

@[simp] theorem setBuf_pending (b : BufId) (x : Buffer) (s : State) : (setBuf b x s).pending = s.pending := rfl

/-! ### `setStream` -/

@[simp] theorem setStream_power (i : StreamId) (x : Stream) (s : State) : (setStream i x s).power = s.power := rfl

@[simp] theorem setStream_conditions (i : StreamId) (x : Stream) (s : State) : (setStream i x s).conditions = s.conditions := rfl

@[simp] theorem setStream_nodeAddr (i : StreamId) (x : Stream) (s : State) : (setStream i x s).nodeAddr = s.nodeAddr := rfl

@[simp] theorem setStream_cyc (i : StreamId) (x : Stream) (s : State) : (setStream i x s).cyc = s.cyc := rfl

@[simp] theorem setStream_win (i : StreamId) (x : Stream) (s : State) : (setStream i x s).win = s.win := rfl

@[simp] theorem setStream_portU (i : StreamId) (x : Stream) (s : State) : (setStream i x s).portU = s.portU := rfl

@[simp] theorem setStream_portD (i : StreamId) (x : Stream) (s : State) : (setStream i x s).portD = s.portD := rfl

@[simp] theorem setStream_txU (i : StreamId) (x : Stream) (s : State) : (setStream i x s).txU = s.txU := rfl

@[simp] theorem setStream_txD (i : StreamId) (x : Stream) (s : State) : (setStream i x s).txD = s.txD := rfl

@[simp] theorem setStream_markArea (i : StreamId) (x : Stream) (s : State) : (setStream i x s).markArea = s.markArea := rfl

@[simp] theorem setStream_mgmtArea (i : StreamId) (x : Stream) (s : State) : (setStream i x s).mgmtArea = s.mgmtArea := rfl

@[simp] theorem setStream_pool (i : StreamId) (x : Stream) (s : State) : (setStream i x s).pool = s.pool := rfl

@[simp] theorem setStream_stores (i : StreamId) (x : Stream) (s : State) : (setStream i x s).stores = s.stores := rfl

@[simp] theorem setStream_streams (i : StreamId) (x : Stream) (s : State) : (setStream i x s).streams = s.streams.set i x := rfl

@[simp] theorem setStream_timer (i : StreamId) (x : Stream) (s : State) : (setStream i x s).timer = s.timer := rfl

@[simp] theorem setStream_sync (i : StreamId) (x : Stream) (s : State) : (setStream i x s).sync = s.sync := rfl

@[simp] theorem setStream_engine (i : StreamId) (x : Stream) (s : State) : (setStream i x s).engine = s.engine := rfl

@[simp] theorem setStream_plan (i : StreamId) (x : Stream) (s : State) : (setStream i x s).plan = s.plan := rfl

@[simp] theorem setStream_mgmt (i : StreamId) (x : Stream) (s : State) : (setStream i x s).mgmt = s.mgmt := rfl

@[simp] theorem setStream_notes (i : StreamId) (x : Stream) (s : State) : (setStream i x s).notes = s.notes := rfl

@[simp] theorem setStream_pending (i : StreamId) (x : Stream) (s : State) : (setStream i x s).pending = s.pending := rfl

/-! ### `countForward` -/

@[simp] theorem countForward_power (f : ForwardCounters → ForwardCounters) (s : State) : (countForward f s).power = s.power := rfl

@[simp] theorem countForward_conditions (f : ForwardCounters → ForwardCounters) (s : State) : (countForward f s).conditions = s.conditions := rfl

@[simp] theorem countForward_nodeAddr (f : ForwardCounters → ForwardCounters) (s : State) : (countForward f s).nodeAddr = s.nodeAddr := rfl

@[simp] theorem countForward_cyc (f : ForwardCounters → ForwardCounters) (s : State) : (countForward f s).cyc = s.cyc := rfl

@[simp] theorem countForward_win (f : ForwardCounters → ForwardCounters) (s : State) : (countForward f s).win = s.win := rfl

@[simp] theorem countForward_portU (f : ForwardCounters → ForwardCounters) (s : State) : (countForward f s).portU = s.portU := rfl

@[simp] theorem countForward_portD (f : ForwardCounters → ForwardCounters) (s : State) : (countForward f s).portD = s.portD := rfl

@[simp] theorem countForward_txU (f : ForwardCounters → ForwardCounters) (s : State) : (countForward f s).txU = s.txU := rfl

@[simp] theorem countForward_txD (f : ForwardCounters → ForwardCounters) (s : State) : (countForward f s).txD = s.txD := rfl

@[simp] theorem countForward_markArea (f : ForwardCounters → ForwardCounters) (s : State) : (countForward f s).markArea = s.markArea := rfl

@[simp] theorem countForward_mgmtArea (f : ForwardCounters → ForwardCounters) (s : State) : (countForward f s).mgmtArea = s.mgmtArea := rfl

@[simp] theorem countForward_pool (f : ForwardCounters → ForwardCounters) (s : State) : (countForward f s).pool = s.pool := rfl

@[simp] theorem countForward_stores (f : ForwardCounters → ForwardCounters) (s : State) : (countForward f s).stores = { s.stores with counters := f s.stores.counters } := rfl

@[simp] theorem countForward_streams (f : ForwardCounters → ForwardCounters) (s : State) : (countForward f s).streams = s.streams := rfl

@[simp] theorem countForward_timer (f : ForwardCounters → ForwardCounters) (s : State) : (countForward f s).timer = s.timer := rfl

@[simp] theorem countForward_sync (f : ForwardCounters → ForwardCounters) (s : State) : (countForward f s).sync = s.sync := rfl

@[simp] theorem countForward_engine (f : ForwardCounters → ForwardCounters) (s : State) : (countForward f s).engine = s.engine := rfl

@[simp] theorem countForward_plan (f : ForwardCounters → ForwardCounters) (s : State) : (countForward f s).plan = s.plan := rfl

@[simp] theorem countForward_mgmt (f : ForwardCounters → ForwardCounters) (s : State) : (countForward f s).mgmt = s.mgmt := rfl

@[simp] theorem countForward_notes (f : ForwardCounters → ForwardCounters) (s : State) : (countForward f s).notes = s.notes := rfl

@[simp] theorem countForward_pending (f : ForwardCounters → ForwardCounters) (s : State) : (countForward f s).pending = s.pending := rfl

/-! ### `countSync` -/

@[simp] theorem countSync_power (f : SyncCounters → SyncCounters) (s : State) : (countSync f s).power = s.power := rfl

@[simp] theorem countSync_conditions (f : SyncCounters → SyncCounters) (s : State) : (countSync f s).conditions = s.conditions := rfl

@[simp] theorem countSync_nodeAddr (f : SyncCounters → SyncCounters) (s : State) : (countSync f s).nodeAddr = s.nodeAddr := rfl

@[simp] theorem countSync_cyc (f : SyncCounters → SyncCounters) (s : State) : (countSync f s).cyc = s.cyc := rfl

@[simp] theorem countSync_win (f : SyncCounters → SyncCounters) (s : State) : (countSync f s).win = s.win := rfl

@[simp] theorem countSync_portU (f : SyncCounters → SyncCounters) (s : State) : (countSync f s).portU = s.portU := rfl

@[simp] theorem countSync_portD (f : SyncCounters → SyncCounters) (s : State) : (countSync f s).portD = s.portD := rfl

@[simp] theorem countSync_txU (f : SyncCounters → SyncCounters) (s : State) : (countSync f s).txU = s.txU := rfl

@[simp] theorem countSync_txD (f : SyncCounters → SyncCounters) (s : State) : (countSync f s).txD = s.txD := rfl

@[simp] theorem countSync_markArea (f : SyncCounters → SyncCounters) (s : State) : (countSync f s).markArea = s.markArea := rfl

@[simp] theorem countSync_mgmtArea (f : SyncCounters → SyncCounters) (s : State) : (countSync f s).mgmtArea = s.mgmtArea := rfl

@[simp] theorem countSync_pool (f : SyncCounters → SyncCounters) (s : State) : (countSync f s).pool = s.pool := rfl

@[simp] theorem countSync_stores (f : SyncCounters → SyncCounters) (s : State) : (countSync f s).stores = s.stores := rfl

@[simp] theorem countSync_streams (f : SyncCounters → SyncCounters) (s : State) : (countSync f s).streams = s.streams := rfl

@[simp] theorem countSync_timer (f : SyncCounters → SyncCounters) (s : State) : (countSync f s).timer = s.timer := rfl

@[simp] theorem countSync_sync (f : SyncCounters → SyncCounters) (s : State) : (countSync f s).sync = { s.sync with counters := f s.sync.counters } := rfl

@[simp] theorem countSync_engine (f : SyncCounters → SyncCounters) (s : State) : (countSync f s).engine = s.engine := rfl

@[simp] theorem countSync_plan (f : SyncCounters → SyncCounters) (s : State) : (countSync f s).plan = s.plan := rfl

@[simp] theorem countSync_mgmt (f : SyncCounters → SyncCounters) (s : State) : (countSync f s).mgmt = s.mgmt := rfl

@[simp] theorem countSync_notes (f : SyncCounters → SyncCounters) (s : State) : (countSync f s).notes = s.notes := rfl

@[simp] theorem countSync_pending (f : SyncCounters → SyncCounters) (s : State) : (countSync f s).pending = s.pending := rfl

/-! ### `countPlan` -/

@[simp] theorem countPlan_power (f : PlanCounters → PlanCounters) (s : State) : (countPlan f s).power = s.power := rfl

@[simp] theorem countPlan_conditions (f : PlanCounters → PlanCounters) (s : State) : (countPlan f s).conditions = s.conditions := rfl

@[simp] theorem countPlan_nodeAddr (f : PlanCounters → PlanCounters) (s : State) : (countPlan f s).nodeAddr = s.nodeAddr := rfl

@[simp] theorem countPlan_cyc (f : PlanCounters → PlanCounters) (s : State) : (countPlan f s).cyc = s.cyc := rfl

@[simp] theorem countPlan_win (f : PlanCounters → PlanCounters) (s : State) : (countPlan f s).win = s.win := rfl

@[simp] theorem countPlan_portU (f : PlanCounters → PlanCounters) (s : State) : (countPlan f s).portU = s.portU := rfl

@[simp] theorem countPlan_portD (f : PlanCounters → PlanCounters) (s : State) : (countPlan f s).portD = s.portD := rfl

@[simp] theorem countPlan_txU (f : PlanCounters → PlanCounters) (s : State) : (countPlan f s).txU = s.txU := rfl

@[simp] theorem countPlan_txD (f : PlanCounters → PlanCounters) (s : State) : (countPlan f s).txD = s.txD := rfl

@[simp] theorem countPlan_markArea (f : PlanCounters → PlanCounters) (s : State) : (countPlan f s).markArea = s.markArea := rfl

@[simp] theorem countPlan_mgmtArea (f : PlanCounters → PlanCounters) (s : State) : (countPlan f s).mgmtArea = s.mgmtArea := rfl

@[simp] theorem countPlan_pool (f : PlanCounters → PlanCounters) (s : State) : (countPlan f s).pool = s.pool := rfl

@[simp] theorem countPlan_stores (f : PlanCounters → PlanCounters) (s : State) : (countPlan f s).stores = s.stores := rfl

@[simp] theorem countPlan_streams (f : PlanCounters → PlanCounters) (s : State) : (countPlan f s).streams = s.streams := rfl

@[simp] theorem countPlan_timer (f : PlanCounters → PlanCounters) (s : State) : (countPlan f s).timer = s.timer := rfl

@[simp] theorem countPlan_sync (f : PlanCounters → PlanCounters) (s : State) : (countPlan f s).sync = s.sync := rfl

@[simp] theorem countPlan_engine (f : PlanCounters → PlanCounters) (s : State) : (countPlan f s).engine = s.engine := rfl

@[simp] theorem countPlan_plan (f : PlanCounters → PlanCounters) (s : State) : (countPlan f s).plan = { s.plan with counters := f s.plan.counters } := rfl

@[simp] theorem countPlan_mgmt (f : PlanCounters → PlanCounters) (s : State) : (countPlan f s).mgmt = s.mgmt := rfl

@[simp] theorem countPlan_notes (f : PlanCounters → PlanCounters) (s : State) : (countPlan f s).notes = s.notes := rfl

@[simp] theorem countPlan_pending (f : PlanCounters → PlanCounters) (s : State) : (countPlan f s).pending = s.pending := rfl

/-! ### `countMgmt` -/

@[simp] theorem countMgmt_power (f : MgmtCounters → MgmtCounters) (s : State) : (countMgmt f s).power = s.power := rfl

@[simp] theorem countMgmt_conditions (f : MgmtCounters → MgmtCounters) (s : State) : (countMgmt f s).conditions = s.conditions := rfl

@[simp] theorem countMgmt_nodeAddr (f : MgmtCounters → MgmtCounters) (s : State) : (countMgmt f s).nodeAddr = s.nodeAddr := rfl

@[simp] theorem countMgmt_cyc (f : MgmtCounters → MgmtCounters) (s : State) : (countMgmt f s).cyc = s.cyc := rfl

@[simp] theorem countMgmt_win (f : MgmtCounters → MgmtCounters) (s : State) : (countMgmt f s).win = s.win := rfl

@[simp] theorem countMgmt_portU (f : MgmtCounters → MgmtCounters) (s : State) : (countMgmt f s).portU = s.portU := rfl

@[simp] theorem countMgmt_portD (f : MgmtCounters → MgmtCounters) (s : State) : (countMgmt f s).portD = s.portD := rfl

@[simp] theorem countMgmt_txU (f : MgmtCounters → MgmtCounters) (s : State) : (countMgmt f s).txU = s.txU := rfl

@[simp] theorem countMgmt_txD (f : MgmtCounters → MgmtCounters) (s : State) : (countMgmt f s).txD = s.txD := rfl

@[simp] theorem countMgmt_markArea (f : MgmtCounters → MgmtCounters) (s : State) : (countMgmt f s).markArea = s.markArea := rfl

@[simp] theorem countMgmt_mgmtArea (f : MgmtCounters → MgmtCounters) (s : State) : (countMgmt f s).mgmtArea = s.mgmtArea := rfl

@[simp] theorem countMgmt_pool (f : MgmtCounters → MgmtCounters) (s : State) : (countMgmt f s).pool = s.pool := rfl

@[simp] theorem countMgmt_stores (f : MgmtCounters → MgmtCounters) (s : State) : (countMgmt f s).stores = s.stores := rfl

@[simp] theorem countMgmt_streams (f : MgmtCounters → MgmtCounters) (s : State) : (countMgmt f s).streams = s.streams := rfl

@[simp] theorem countMgmt_timer (f : MgmtCounters → MgmtCounters) (s : State) : (countMgmt f s).timer = s.timer := rfl

@[simp] theorem countMgmt_sync (f : MgmtCounters → MgmtCounters) (s : State) : (countMgmt f s).sync = s.sync := rfl

@[simp] theorem countMgmt_engine (f : MgmtCounters → MgmtCounters) (s : State) : (countMgmt f s).engine = s.engine := rfl

@[simp] theorem countMgmt_plan (f : MgmtCounters → MgmtCounters) (s : State) : (countMgmt f s).plan = s.plan := rfl

@[simp] theorem countMgmt_mgmt (f : MgmtCounters → MgmtCounters) (s : State) : (countMgmt f s).mgmt = { s.mgmt with counters := f s.mgmt.counters } := rfl

@[simp] theorem countMgmt_notes (f : MgmtCounters → MgmtCounters) (s : State) : (countMgmt f s).notes = s.notes := rfl

@[simp] theorem countMgmt_pending (f : MgmtCounters → MgmtCounters) (s : State) : (countMgmt f s).pending = s.pending := rfl

/-! ### `countNotes` -/

@[simp] theorem countNotes_power (f : NoteCounters → NoteCounters) (s : State) : (countNotes f s).power = s.power := rfl

@[simp] theorem countNotes_conditions (f : NoteCounters → NoteCounters) (s : State) : (countNotes f s).conditions = s.conditions := rfl

@[simp] theorem countNotes_nodeAddr (f : NoteCounters → NoteCounters) (s : State) : (countNotes f s).nodeAddr = s.nodeAddr := rfl

@[simp] theorem countNotes_cyc (f : NoteCounters → NoteCounters) (s : State) : (countNotes f s).cyc = s.cyc := rfl

@[simp] theorem countNotes_win (f : NoteCounters → NoteCounters) (s : State) : (countNotes f s).win = s.win := rfl

@[simp] theorem countNotes_portU (f : NoteCounters → NoteCounters) (s : State) : (countNotes f s).portU = s.portU := rfl

@[simp] theorem countNotes_portD (f : NoteCounters → NoteCounters) (s : State) : (countNotes f s).portD = s.portD := rfl

@[simp] theorem countNotes_txU (f : NoteCounters → NoteCounters) (s : State) : (countNotes f s).txU = s.txU := rfl

@[simp] theorem countNotes_txD (f : NoteCounters → NoteCounters) (s : State) : (countNotes f s).txD = s.txD := rfl

@[simp] theorem countNotes_markArea (f : NoteCounters → NoteCounters) (s : State) : (countNotes f s).markArea = s.markArea := rfl

@[simp] theorem countNotes_mgmtArea (f : NoteCounters → NoteCounters) (s : State) : (countNotes f s).mgmtArea = s.mgmtArea := rfl

@[simp] theorem countNotes_pool (f : NoteCounters → NoteCounters) (s : State) : (countNotes f s).pool = s.pool := rfl

@[simp] theorem countNotes_stores (f : NoteCounters → NoteCounters) (s : State) : (countNotes f s).stores = s.stores := rfl

@[simp] theorem countNotes_streams (f : NoteCounters → NoteCounters) (s : State) : (countNotes f s).streams = s.streams := rfl

@[simp] theorem countNotes_timer (f : NoteCounters → NoteCounters) (s : State) : (countNotes f s).timer = s.timer := rfl

@[simp] theorem countNotes_sync (f : NoteCounters → NoteCounters) (s : State) : (countNotes f s).sync = s.sync := rfl

@[simp] theorem countNotes_engine (f : NoteCounters → NoteCounters) (s : State) : (countNotes f s).engine = s.engine := rfl

@[simp] theorem countNotes_plan (f : NoteCounters → NoteCounters) (s : State) : (countNotes f s).plan = s.plan := rfl

@[simp] theorem countNotes_mgmt (f : NoteCounters → NoteCounters) (s : State) : (countNotes f s).mgmt = s.mgmt := rfl

@[simp] theorem countNotes_notes (f : NoteCounters → NoteCounters) (s : State) : (countNotes f s).notes = { s.notes with counters := f s.notes.counters } := rfl

@[simp] theorem countNotes_pending (f : NoteCounters → NoteCounters) (s : State) : (countNotes f s).pending = s.pending := rfl

/-! ### `setWindow` -/

@[simp] theorem setWindow_power (w : Option Window) (s : State) : (setWindow w s).power = s.power := rfl

@[simp] theorem setWindow_conditions (w : Option Window) (s : State) : (setWindow w s).conditions = s.conditions := rfl

@[simp] theorem setWindow_nodeAddr (w : Option Window) (s : State) : (setWindow w s).nodeAddr = s.nodeAddr := rfl

@[simp] theorem setWindow_cyc (w : Option Window) (s : State) : (setWindow w s).cyc = s.cyc := rfl

@[simp] theorem setWindow_win (w : Option Window) (s : State) : (setWindow w s).win = s.win := rfl

@[simp] theorem setWindow_portU (w : Option Window) (s : State) : (setWindow w s).portU = s.portU := rfl

@[simp] theorem setWindow_portD (w : Option Window) (s : State) : (setWindow w s).portD = s.portD := rfl

@[simp] theorem setWindow_txU (w : Option Window) (s : State) : (setWindow w s).txU = s.txU := rfl

@[simp] theorem setWindow_txD (w : Option Window) (s : State) : (setWindow w s).txD = s.txD := rfl

@[simp] theorem setWindow_markArea (w : Option Window) (s : State) : (setWindow w s).markArea = s.markArea := rfl

@[simp] theorem setWindow_mgmtArea (w : Option Window) (s : State) : (setWindow w s).mgmtArea = s.mgmtArea := rfl

@[simp] theorem setWindow_pool (w : Option Window) (s : State) : (setWindow w s).pool = s.pool := rfl

@[simp] theorem setWindow_stores (w : Option Window) (s : State) : (setWindow w s).stores = s.stores := rfl

@[simp] theorem setWindow_streams (w : Option Window) (s : State) : (setWindow w s).streams = s.streams := rfl

@[simp] theorem setWindow_timer (w : Option Window) (s : State) : (setWindow w s).timer = s.timer := rfl

@[simp] theorem setWindow_sync (w : Option Window) (s : State) : (setWindow w s).sync = s.sync := rfl

@[simp] theorem setWindow_engine (w : Option Window) (s : State) : (setWindow w s).engine = { s.engine with window := w } := rfl

@[simp] theorem setWindow_plan (w : Option Window) (s : State) : (setWindow w s).plan = s.plan := rfl

@[simp] theorem setWindow_mgmt (w : Option Window) (s : State) : (setWindow w s).mgmt = s.mgmt := rfl

@[simp] theorem setWindow_notes (w : Option Window) (s : State) : (setWindow w s).notes = s.notes := rfl

@[simp] theorem setWindow_pending (w : Option Window) (s : State) : (setWindow w s).pending = s.pending := rfl

/-! ### `setRequest` -/

@[simp] theorem setRequest_power (r : Bool) (s : State) : (setRequest r s).power = s.power := rfl

@[simp] theorem setRequest_conditions (r : Bool) (s : State) : (setRequest r s).conditions = s.conditions := rfl

@[simp] theorem setRequest_nodeAddr (r : Bool) (s : State) : (setRequest r s).nodeAddr = s.nodeAddr := rfl

@[simp] theorem setRequest_cyc (r : Bool) (s : State) : (setRequest r s).cyc = s.cyc := rfl

@[simp] theorem setRequest_win (r : Bool) (s : State) : (setRequest r s).win = s.win := rfl

@[simp] theorem setRequest_portU (r : Bool) (s : State) : (setRequest r s).portU = s.portU := rfl

@[simp] theorem setRequest_portD (r : Bool) (s : State) : (setRequest r s).portD = s.portD := rfl

@[simp] theorem setRequest_txU (r : Bool) (s : State) : (setRequest r s).txU = s.txU := rfl

@[simp] theorem setRequest_txD (r : Bool) (s : State) : (setRequest r s).txD = s.txD := rfl

@[simp] theorem setRequest_markArea (r : Bool) (s : State) : (setRequest r s).markArea = s.markArea := rfl

@[simp] theorem setRequest_mgmtArea (r : Bool) (s : State) : (setRequest r s).mgmtArea = s.mgmtArea := rfl

@[simp] theorem setRequest_pool (r : Bool) (s : State) : (setRequest r s).pool = s.pool := rfl

@[simp] theorem setRequest_stores (r : Bool) (s : State) : (setRequest r s).stores = s.stores := rfl

@[simp] theorem setRequest_streams (r : Bool) (s : State) : (setRequest r s).streams = s.streams := rfl

@[simp] theorem setRequest_timer (r : Bool) (s : State) : (setRequest r s).timer = s.timer := rfl

@[simp] theorem setRequest_sync (r : Bool) (s : State) : (setRequest r s).sync = s.sync := rfl

@[simp] theorem setRequest_engine (r : Bool) (s : State) : (setRequest r s).engine = { s.engine with request := r } := rfl

@[simp] theorem setRequest_plan (r : Bool) (s : State) : (setRequest r s).plan = s.plan := rfl

@[simp] theorem setRequest_mgmt (r : Bool) (s : State) : (setRequest r s).mgmt = s.mgmt := rfl

@[simp] theorem setRequest_notes (r : Bool) (s : State) : (setRequest r s).notes = s.notes := rfl

@[simp] theorem setRequest_pending (r : Bool) (s : State) : (setRequest r s).pending = s.pending := rfl

/-! ### Stream entries read after a write -/

/-- A stream entry after a write: the one written, or the one that was there. -/
theorem setStream_stream (i j : StreamId) (x : Stream) (s : State) :
    (setStream i x s).stream j = if i = j then x else s.stream j := by
  unfold setStream State.stream
  by_cases h : i = j
  · subst h; simp
  · have : i.val ≠ j.val := fun e => h (Fin.ext e)
    simp [h, this]

@[simp] theorem setStream_stream_self (i : StreamId) (x : Stream) (s : State) :
    (setStream i x s).stream i = x := by simp [setStream_stream]

/-- A pool buffer after a write: the one written, or the one that was there. -/
theorem setBuf_getElem (b c : BufId) (x : Buffer) (s : State) :
    (setBuf b x s).pool[c] = if b = c then x else s.pool[c] := by
  by_cases h : b = c
  · subst h; simp [setBuf]
  · have : b.val ≠ c.val := fun e => h (Fin.ext e)
    simp [setBuf, h, this]

end Sys2Proof.Machine
end

