-- ==== Sys2Proof/Laws/Ops.lean ====
section
/-! SUPPORT. Laws/Ops.lean: for each shared operation, once, all that it can do to the state. -/

namespace Sys2Proof.Machine

/-! ### Occurrences -/

/-- A report changes nothing but the note unit. -/
theorem report_eq (o : Occurrence) (s : State) : report o s = { s with notes := (report o s).notes } := by
  unfold report; split <;> rfl

/-- What a report leaves in the note unit: what was there, or the occurrence recorded. -/
theorem report_notes (o : Occurrence) (s : State) :
    (report o s).notes = s.notes ∨ (report o s).notes = recordOccurrence o s.timer.cycle s.notes := by
  unfold report; split
  · exact .inr rfl
  · exact .inl rfl

/-- Reports of one occurrence change nothing but the note unit. -/
theorem reportTimes_eq (n : Nat) (o : Occurrence) (s : State) :
    reportTimes n o s = { s with notes := (reportTimes n o s).notes } := by
  induction n generalizing s with
  | zero => rfl
  | succ n ih => rw [reportTimes, ih, report_eq]

/-- An occurrence folds into a record of the queue, is appended, or is lost (R153). -/
theorem recordOccurrence_cases (o : Occurrence) (c : Cycle) (n : Notes) :
    (∃ q, coalesceInto o c n.queue = some q ∧ recordOccurrence o c n = { n with queue := q }) ∨
    recordOccurrence o c n = appendOrLose o c n := by
  unfold recordOccurrence
  by_cases h : o.coalesces = true
  · rw [if_pos h]
    cases hq : coalesceInto o c n.queue with
    | none => exact .inr rfl
    | some q => exact .inl ⟨q, rfl, rfl⟩
  · rw [if_neg h]
    exact .inr rfl

/-- Where an occurrence folds: into the first record that takes it (R153, case 1). -/
theorem coalesceInto_some {o : Occurrence} {c : Cycle} {q q' : List NoteRecord} (h : coalesceInto o c q = some q') :
    ∃ pre r post, q = pre ++ r :: post ∧ (∀ x ∈ pre, takesOccurrence o x = false) ∧ takesOccurrence o r = true ∧
      q' = pre ++ foldInto o c r :: post := by
  induction q generalizing q' with
  | nil => simp [coalesceInto] at h
  | cons r rs ih =>
    unfold coalesceInto at h
    split at h
    · rename_i ht
      exact ⟨[], r, rs, rfl, by simp, ht, by simpa using h.symm⟩
    · rename_i ht
      cases hq : coalesceInto o c rs with
      | none => simp [hq] at h
      | some p =>
        obtain ⟨pre, x, post, rfl, hpre, hx, rfl⟩ := ih hq
        refine ⟨r :: pre, x, post, rfl, ?_, hx, by simpa [hq] using h.symm⟩
        simpa using ⟨by simpa using ht, hpre⟩

/-- Nothing folds where no record takes the occurrence. -/
theorem coalesceInto_none {o : Occurrence} {c : Cycle} {q : List NoteRecord} :
    coalesceInto o c q = none ↔ ∀ x ∈ q, takesOccurrence o x = false := by
  induction q with
  | nil => simp [coalesceInto]
  | cons r rs ih =>
    unfold coalesceInto
    split
    · rename_i h; simp [h]
    · rename_i h; simp [ih, h]

/-- The head's leaving drops the head and, from a full queue with a tally, appends a LOST record (R155). -/
theorem headLeaves_queue (c : Cycle) (n : Notes) :
    (headLeaves c n).queue = n.queue.tail ∨
    (headLeaves c n).queue = n.queue.tail ++ [freshRecord (.lost n.tally) c] ∧ 16 ≤ n.queue.length ∧ 0 < n.tally ∧
      (headLeaves c n).tally = 0 := by
  unfold headLeaves afterLeaving
  split
  · rename_i h
    simp only [Bool.and_eq_true, decide_eq_true_eq] at h
    exact .inr ⟨rfl, h.1, h.2, rfl⟩
  · exact .inl rfl

/-! ### The buffer pool -/

/-- Freeing a list of buffers changes nothing but the pool. -/
theorem freeBufs_eq (bs : List BufId) (s : State) : freeBufs bs s = { s with pool := (freeBufs bs s).pool } := by
  induction bs generalizing s with
  | nil => rfl
  | cons b bs ih =>
    have h : freeBufs (b :: bs) s = freeBufs bs (freeBuf b s) := rfl
    rw [h, ih]
    rfl

/-- A freed list: its members are FREE, the others as they were (R23). -/
theorem freeBufs_getElem (bs : List BufId) (s : State) (c : BufId) :
    (freeBufs bs s).pool[c] = if c ∈ bs then {} else s.pool[c] := by
  induction bs generalizing s with
  | nil => simp [freeBufs]
  | cons b bs ih =>
    have h : freeBufs (b :: bs) s = freeBufs bs (freeBuf b s) := rfl
    rw [h, ih, freeBuf, setBuf_getElem]
    by_cases hb : b = c
    · simp [hb]
    · have hc : ¬ c = b := fun e => hb e.symm
      simp [hb, hc]

/-- The lowest FREE buffer is FREE and no lower one is (R21). -/
theorem lowestFree_some {s : State} {b : BufId} (h : lowestFree s = some b) :
    s.pool[b].state = .free ∧ ∀ c : BufId, c < b → s.pool[c].state ≠ .free := by
  unfold lowestFree at h
  rw [List.find?_eq_some_iff_append] at h
  obtain ⟨hb, pre, post, hl, hpre⟩ := h
  refine ⟨by simpa using hb, fun c hc => ?_⟩
  have hs : (List.finRange 64).Pairwise (· < ·) := List.pairwise_lt_finRange 64
  have hm : c ∈ pre ++ b :: post := hl ▸ List.mem_finRange c
  rw [hl] at hs
  rcases List.mem_append.1 hm with h1 | h1
  · simpa using hpre c h1
  · exfalso
    rcases List.mem_cons.1 h1 with rfl | h2
    · exact lt_irrefl _ hc
    · have := (List.pairwise_append.1 hs).2.1
      exact lt_asymm hc (List.rel_of_pairwise_cons this h2)

/-- There is no lowest FREE buffer exactly when no buffer is FREE. -/
theorem lowestFree_none {s : State} : lowestFree s = none ↔ ∀ b : BufId, s.pool[b].state ≠ .free := by
  simp [lowestFree, List.find?_eq_none]

/-! ### The stream table -/

/-- A TAG's entry is valid and has it (R9). -/
theorem lookup_some {s : State} {t : Tag} {i : StreamId} (h : lookup s t = some i) :
    (s.stream i).valid = true ∧ (s.stream i).tag = t := by
  have := List.find?_some h
  simpa using this

/-- A TAG with no entry is the TAG of no valid entry (R9). -/
theorem lookup_none {s : State} {t : Tag} :
    lookup s t = none ↔ ∀ i, (s.stream i).valid = true → (s.stream i).tag ≠ t := by
  simp [lookup, List.find?_eq_none]

/-! ### Vectors changed element by element -/

/-- An element of a vector changed by `mapVector`. -/
theorem mapVector_getElem {α : Type} {n : Nat} (f : α → α) (v : Vector α n) (i : Nat) (h : i < n) :
    (mapVector f v)[i] = f v[i] := by
  obtain ⟨⟨l⟩, hl⟩ := v
  simp [mapVector]

/-- `mapVector` is the library's `Vector.map`. -/
theorem mapVector_eq_map {α : Type} {n : Nat} (f : α → α) (v : Vector α n) : mapVector f v = v.map f := by
  ext i h
  simp [mapVector_getElem]

end Sys2Proof.Machine
end

