-- ==== Sys2Proof/Laws/Engine.lean ====
section
/-! SUPPORT. Laws/Engine.lean: all that the arbiters, the release engine and the end of an event can do. -/

namespace Sys2Proof.Machine

/-! ### The arbiters -/

/-- The U transmitter arbiter changes only its transmitter, the pool, the stores and the note unit (R31). -/
theorem arbiterU_eq (s : State) :
    arbiterU s =
      { s with
        txU := (arbiterU s).txU
        pool := (arbiterU s).pool
        stores := (arbiterU s).stores
        notes := (arbiterU s).notes } := by
  unfold arbiterU grantPart
  split
  · rfl
  · split
    · split
      · split
        · split
          · rfl
          · split <;> rfl
        · rfl
      · split
        · rfl
        · split <;> rfl
    · rfl

/-- A BUSY transmitter or a line that is DOWN is granted nothing (R14, R16). -/
theorem arbiterU_of_busy {s : State} (h : s.txU ≠ none ∨ s.portU.link = .down) : arbiterU s = s := by
  unfold arbiterU
  split
  · rfl
  · rename_i hn
    rcases h with h | h
    · exact absurd hn h
    · simp [h]

/-- The third candidate changes only the transmitter, the pool and the pass-through queue (R26, R99). -/
theorem tryPass_eq (s : State) :
    tryPass s = { s with txD := (tryPass s).txD, pool := (tryPass s).pool, stores := (tryPass s).stores } := by
  unfold tryPass
  split
  · split <;> rfl
  · rfl

/-- The D transmitter arbiter changes only its transmitter, the pool, the stores, the hold queues and the release
engine (R99). -/
theorem arbiterD_eq (s : State) :
    arbiterD s =
      { s with
        txD := (arbiterD s).txD
        pool := (arbiterD s).pool
        stores := (arbiterD s).stores
        streams := (arbiterD s).streams
        engine := (arbiterD s).engine } := by
  unfold arbiterD
  split
  · rfl
  · split
    · split
      · rfl
      · unfold tryRelease
        split
        · split
          · rfl
          · rw [tryPass_eq]
        · rw [tryPass_eq]
        · rw [tryPass_eq]
    · rfl

/-- A BUSY transmitter or a line that is DOWN is granted nothing (R14, R16). -/
theorem arbiterD_of_busy {s : State} (h : s.txD ≠ none ∨ s.portD.link = .down) : arbiterD s = s := by
  unfold arbiterD
  split
  · rfl
  · rename_i hn
    rcases h with h | h
    · exact absurd hn h
    · simp [h]

/-- Both arbiters leave everything but the transmitters, the pool, the stores, the hold queues, the release engine and
the note unit. -/
theorem conclude_eq (before after : State) :
    conclude before after =
      { after with
        txU := (conclude before after).txU
        txD := (conclude before after).txD
        pool := (conclude before after).pool
        stores := (conclude before after).stores
        streams := (conclude before after).streams
        engine := (conclude before after).engine
        notes := (conclude before after).notes } := by
  unfold conclude
  split
  · split
    · rw [arbiterU_eq, arbiterD_eq]
    · rw [arbiterD_eq]
  · split
    · rw [arbiterU_eq]
    · rfl

/-- An event that invokes neither arbiter ends as it stands. -/
theorem conclude_of_quiet {before after : State} (hu : invokesU before after = false)
    (hd : invokesD before after = false) : conclude before after = after := by
  simp [conclude, hu, hd]

/-! ### Windows and requests -/

/-- Raising a request changes nothing but the request. -/
theorem raiseRequest_eq (s : State) :
    raiseRequest s = { s with engine := { s.engine with request := (raiseRequest s).engine.request } } := by
  unfold raiseRequest; split <;> rfl

/-- A request stands after a raise exactly if it stood or was wanted (R88). -/
theorem raiseRequest_request (s : State) :
    (raiseRequest s).engine.request = (s.engine.request || requestWanted s) := by
  unfold raiseRequest
  split
  · rename_i h; simp [h]
  · rename_i h; simp [Bool.eq_false_iff.2 h]

/-- The report that a queue is empty changes nothing but the request (R91). -/
theorem withdrawIfEmpty_eq (i : StreamId) (s : State) :
    withdrawIfEmpty i s = { s with engine := { s.engine with request := (withdrawIfEmpty i s).engine.request } } := by
  unfold withdrawIfEmpty
  split
  · split <;> rfl
  · rfl

/-- The end of a window: nothing where none stands; else the request is withdrawn, WIN is low, the window is gone, and
a ONCE slot is SPENT (R92, R96). -/
theorem endWindow_eq (s : State) :
    (s.engine.window = none ∧ endWindow s = s) ∨
    (∃ w, s.engine.window = some w ∧
      endWindow s =
        { s with
          win := false
          engine := { s.engine with window := none, request := false }
          plan := if w.once then (spendSlot w.position s).plan else s.plan }) := by
  unfold endWindow
  cases h : s.engine.window with
  | none => exact .inl ⟨rfl, rfl⟩
  | some w =>
    refine .inr ⟨w, rfl, ?_⟩
    dsimp only
    cases w.once <;> rfl

/-- A window ends where the gate was open and is shut, and nowhere else (R96). -/
theorem gateEnds_cases (before after : State) :
    gateOpen before = true ∧ gateOpen after = false ∧ gateEnds before after = endWindow after ∨
    (gateOpen before = false ∨ gateOpen after = true) ∧ gateEnds before after = after := by
  unfold gateEnds
  cases gateOpen before <;> cases gateOpen after <;> simp

/-- Detaching changes nothing but the port D transmission (R43). -/
theorem detach_eq (i : StreamId) (s : State) : detach i s = { s with txD := (detach i s).txD } := by
  unfold detach
  split
  · split
    · split <;> rfl
    · rfl
    · rfl
    · rfl
  · rfl

end Sys2Proof.Machine
end

