-- ==== Sys2Proof/WellFormed.lean ====
section
/-! DEFINITION. WellFormed.lean: the checks on a command's operands. A command that fails them describes no event of
the part: RESET# is reported low only if some tick sampled it low (R172), power-on completes after 4,096 ticks (R172),
and a block acts once at a wrap (R56). -/

namespace Sys2Proof

/-- A report of RESET# low names at least one tick that sampled it so (R172). -/
def PowerCause.wellFormed : PowerCause → Bool
  | .supplyDrop => true
  | .refclkStop => true
  | .resetLow samples => decide (1 ≤ samples)
  | .suppliesGood => true
  | .refclkRuns => true
  | .resetHigh => true

/-- Each block's action is made at most once by the order of a wrap (R56). -/
def wrapOrderWellFormed (order : List WrapAct) : Bool := decide (order.flatMap WrapAct.blocks).Nodup

/-- The operand checks of every command. -/
def Instr.wellFormed : Instr → Bool
  | .powerOn cause => cause.wellFormed
  | .powerOnComplete goodTicks _ _ _ _ => goodTicks == Config.powerOnTicks
  | .linkChange _ _ => true
  | .headerTime _ _ => true
  | .frameEnd _ _ => true
  | .wrap order => wrapOrderWellFormed order
  | .missLimitReached order => wrapOrderWellFormed order
  | .holdoverLimitReached order => wrapOrderWellFormed order
  | .staleRemoval order => wrapOrderWellFormed order
  | .holdExpiry order => wrapOrderWellFormed order
  | .noteTimeout order => wrapOrderWellFormed order
  | .cycFall => true
  | .slotTake => true
  | .windowClose => true
  | .transmissionComplete _ => true
  | .requestReplay => true
  | .broadcastIgnore => true
  | .unknownRequest => true
  | .ident => true
  | .streamWrite => true
  | .streamDelete => true
  | .streamLock => true
  | .streamRead => true
  | .streamPurge => true
  | .slotAdd => true
  | .slotDrop => true
  | .slotRead => true
  | .stageEmpty => true
  | .stageFromActive => true
  | .cycleStage => true
  | .switch => true
  | .withdraw => true
  | .hold => true
  | .resume => true
  | .syncConfig => true
  | .syncRead => true
  | .traceRead => true
  | .countRead => true
  | .noteAck => true
  | .noteConfig => true
  | .passConfig => true
  | .restart => true
  | .firstByteOfFrame _ _ => true
  | .tick => true

end Sys2Proof
end

