-- ==== Sys2Proof/Laws/PerInstr.lean ====
section
/-! SUPPORT. Laws/PerInstr.lean: for every command, what its operand checks ask (R56, R172). -/

namespace Sys2Proof.Laws.OperandsChecked

/-- What the manual asks of a command's operands: RESET# is low at some tick if it is reported low, power-on completes
after 4,096 ticks (R172), each block acts once at a wrap (R56). -/
def Asked : Instr → Prop
  | .powerOn cause => ∀ samples, cause = .resetLow samples → 1 ≤ samples
  | .powerOnComplete goodTicks _ _ _ _ => goodTicks = 4096
  | .linkChange _ _ => True
  | .headerTime _ _ => True
  | .frameEnd _ _ => True
  | .wrap order => (order.flatMap WrapAct.blocks).Nodup
  | .missLimitReached order => (order.flatMap WrapAct.blocks).Nodup
  | .holdoverLimitReached order => (order.flatMap WrapAct.blocks).Nodup
  | .staleRemoval order => (order.flatMap WrapAct.blocks).Nodup
  | .holdExpiry order => (order.flatMap WrapAct.blocks).Nodup
  | .noteTimeout order => (order.flatMap WrapAct.blocks).Nodup
  | .cycFall => True
  | .slotTake => True
  | .windowClose => True
  | .transmissionComplete _ => True
  | .requestReplay => True
  | .broadcastIgnore => True
  | .unknownRequest => True
  | .ident => True
  | .streamWrite => True
  | .streamDelete => True
  | .streamLock => True
  | .streamRead => True
  | .streamPurge => True
  | .slotAdd => True
  | .slotDrop => True
  | .slotRead => True
  | .stageEmpty => True
  | .stageFromActive => True
  | .cycleStage => True
  | .switch => True
  | .withdraw => True
  | .hold => True
  | .resume => True
  | .syncConfig => True
  | .syncRead => True
  | .traceRead => True
  | .countRead => True
  | .noteAck => True
  | .noteConfig => True
  | .passConfig => True
  | .restart => True
  | .firstByteOfFrame _ _ => True
  | .tick => True

/-- The operand checks of a command ask what the manual asks, no less and no more. -/
def Statement (i : Instr) : Prop := i.wellFormed = true ↔ Asked i

theorem powerOn (cause : PowerCause) : Statement (.powerOn cause) := by
  cases cause <;> simp [Statement, Asked, Instr.wellFormed, PowerCause.wellFormed]

theorem powerOnComplete (goodTicks : Nat) (straps : NodeAddr) (linkU linkD : Link) (dFirst : Bool) :
    Statement (.powerOnComplete goodTicks straps linkU linkD dFirst) :=
  beq_iff_eq

theorem linkChange (p : Port) (l : Link) : Statement (.linkChange p l) :=
  iff_of_true rfl trivial

theorem headerTime (p : Port) (b : Byte) : Statement (.headerTime p b) :=
  iff_of_true rfl trivial

theorem frameEnd (p : Port) (b : Byte) : Statement (.frameEnd p b) :=
  iff_of_true rfl trivial

theorem wrap (order : List WrapAct) : Statement (.wrap order) :=
  decide_eq_true_iff

theorem missLimitReached (order : List WrapAct) : Statement (.missLimitReached order) :=
  decide_eq_true_iff

theorem holdoverLimitReached (order : List WrapAct) : Statement (.holdoverLimitReached order) :=
  decide_eq_true_iff

theorem staleRemoval (order : List WrapAct) : Statement (.staleRemoval order) :=
  decide_eq_true_iff

theorem holdExpiry (order : List WrapAct) : Statement (.holdExpiry order) :=
  decide_eq_true_iff

theorem noteTimeout (order : List WrapAct) : Statement (.noteTimeout order) :=
  decide_eq_true_iff

theorem cycFall : Statement (.cycFall) :=
  iff_of_true rfl trivial

theorem slotTake : Statement (.slotTake) :=
  iff_of_true rfl trivial

theorem windowClose : Statement (.windowClose) :=
  iff_of_true rfl trivial

theorem transmissionComplete (p : Port) : Statement (.transmissionComplete p) :=
  iff_of_true rfl trivial

theorem requestReplay : Statement (.requestReplay) :=
  iff_of_true rfl trivial

theorem broadcastIgnore : Statement (.broadcastIgnore) :=
  iff_of_true rfl trivial

theorem unknownRequest : Statement (.unknownRequest) :=
  iff_of_true rfl trivial

theorem ident : Statement (.ident) :=
  iff_of_true rfl trivial

theorem streamWrite : Statement (.streamWrite) :=
  iff_of_true rfl trivial

theorem streamDelete : Statement (.streamDelete) :=
  iff_of_true rfl trivial

theorem streamLock : Statement (.streamLock) :=
  iff_of_true rfl trivial

theorem streamRead : Statement (.streamRead) :=
  iff_of_true rfl trivial

theorem streamPurge : Statement (.streamPurge) :=
  iff_of_true rfl trivial

theorem slotAdd : Statement (.slotAdd) :=
  iff_of_true rfl trivial

theorem slotDrop : Statement (.slotDrop) :=
  iff_of_true rfl trivial

theorem slotRead : Statement (.slotRead) :=
  iff_of_true rfl trivial

theorem stageEmpty : Statement (.stageEmpty) :=
  iff_of_true rfl trivial

theorem stageFromActive : Statement (.stageFromActive) :=
  iff_of_true rfl trivial

theorem cycleStage : Statement (.cycleStage) :=
  iff_of_true rfl trivial

theorem switch : Statement (.switch) :=
  iff_of_true rfl trivial

theorem withdraw : Statement (.withdraw) :=
  iff_of_true rfl trivial

theorem hold : Statement (.hold) :=
  iff_of_true rfl trivial

theorem resume : Statement (.resume) :=
  iff_of_true rfl trivial

theorem syncConfig : Statement (.syncConfig) :=
  iff_of_true rfl trivial

theorem syncRead : Statement (.syncRead) :=
  iff_of_true rfl trivial

theorem traceRead : Statement (.traceRead) :=
  iff_of_true rfl trivial

theorem countRead : Statement (.countRead) :=
  iff_of_true rfl trivial

theorem noteAck : Statement (.noteAck) :=
  iff_of_true rfl trivial

theorem noteConfig : Statement (.noteConfig) :=
  iff_of_true rfl trivial

theorem passConfig : Statement (.passConfig) :=
  iff_of_true rfl trivial

theorem restart : Statement (.restart) :=
  iff_of_true rfl trivial

theorem firstByteOfFrame (p : Port) (b : Byte) : Statement (.firstByteOfFrame p b) :=
  iff_of_true rfl trivial

theorem tick : Statement (.tick) :=
  iff_of_true rfl trivial

end Sys2Proof.Laws.OperandsChecked
end

