-- ==== Sys2Proof/Laws/Steps.lean ====
section
/-! SUPPORT. Laws/Steps.lean: what a step can do: the command at the front, a request taken or not, the events due
before a tick, and the order of the blocks at a wrap. -/

namespace Sys2Proof.Machine

/-! ### The queue of commands -/

/-- A step runs the command at the front of the queue, or idles on an empty queue. -/
theorem step_cases {s s' : State} (h : step s = .next s') :
    s.pending = [] ∧ s' = s ∨
    ∃ c rest, s.pending = c :: rest ∧ exec c { s with pending := rest } = .next s' := by
  unfold step at h
  split at h
  · rename_i c rest hp
    exact .inr ⟨c, rest, hp, h⟩
  · rename_i hp
    injection h with h
    exact .inl ⟨hp, h.symm⟩

/-- Every command answers a next state. -/
theorem exec_next (c : Instr) (s : State) : ∃ t, exec c s = .next t := by
  cases c <;> exact ⟨_, rfl⟩

/-! ### Requests -/

/-- The request the unit would take is the oldest, while the part runs and the unit is READY (R128, R129). -/
theorem nextRequest_some {s : State} {f : FrameBytes} (h : nextRequest s = some f) :
    s.power = .running ∧ s.mgmt.mode = .ready ∧ ∃ rest, s.mgmt.input = f :: rest := by
  unfold nextRequest at h
  split at h
  · rename_i hc
    simp only [Bool.and_eq_true, beq_iff_eq] at hc
    refine ⟨hc.1, hc.2, ?_⟩
    cases hi : s.mgmt.input with
    | nil => simp [hi] at h
    | cons g rest => exact ⟨rest, by simp_all⟩
  · cases h

/-- A request's step does nothing, or it takes the oldest request, which is its own, and the arbiters follow. -/
theorem takeRequest_cases (row : Row) (run : FrameBytes → State → State) (s : State) :
    takeRequest row run s = s ∨
    ∃ f, nextRequest s = some f ∧ rowOf s.mgmt f = row ∧ takeRequest row run s = conclude s (run f (takeHead s)) := by
  unfold takeRequest
  cases h : nextRequest s with
  | none => exact .inl rfl
  | some f =>
    by_cases hr : rowOf s.mgmt f = row
    · exact .inr ⟨f, rfl, hr, by simp [hr]⟩
    · exact .inl (by simp [hr])

/-- A request that is the step's own is taken. -/
theorem takeRequest_taken {row : Row} {run : FrameBytes → State → State} {s : State} {f : FrameBytes}
    (hn : nextRequest s = some f) (hr : rowOf s.mgmt f = row) :
    takeRequest row run s = conclude s (run f (takeHead s)) := by
  simp [takeRequest, hn, hr]

/-- Placing replies leaves at most two frames in the outbox (R132). -/
theorem placeReplies_outbox (rs : List Reply) {m : Mgmt} (h : m.outbox.length ≤ 2) :
    (placeReplies rs m).outbox.length ≤ 2 := by
  simp only [placeReplies, List.length_append, List.length_take, Config.outboxCapacity]
  omega

/-! ### Before a tick -/

/-- With no completion due on port D nothing happens to it. -/
theorem finishD_of_not_due {s : State} (h : ∀ t, s.txD = some t → t.remaining ≠ 0) : finishD s = s := by
  unfold finishD
  split
  · rename_i t ht; simp [h t ht]
  · rfl

/-- With no completion due on port U nothing happens to it. -/
theorem finishU_of_not_due {s : State} (h : ∀ t, s.txU = some t → t.remaining ≠ 0) : finishU s = s := by
  unfold finishU
  split
  · rename_i t ht; simp [h t ht]
  · rfl

/-- With no close and no take due the release engine does nothing. -/
theorem finishEngine_of_not_due {s : State} (hc : closeDue s = false) (ht : takeDue s = false) :
    finishEngine s = s := by
  simp [finishEngine, hc, ht]

/-- With none of the clock's events due at the present offset, none comes before the next tick. -/
theorem settleClock_of_quiet {s : State} (hd : ∀ t, s.txD = some t → t.remaining ≠ 0)
    (hu : ∀ t, s.txU = some t → t.remaining ≠ 0) (hc : closeDue s = false) (ht : takeDue s = false)
    (hy : cycDue s = false) : settleClock s = s := by
  simp [settleClock, finishD_of_not_due hd, finishU_of_not_due hu, finishEngine_of_not_due hc ht, dropCyc, hy]

/-- A unit that has no request to take takes none (R128, R129). -/
theorem takeOldest_of_none {s : State} (h : nextRequest s = none) : takeOldest s = s := by simp [takeOldest, h]

/-- However often it looks, a unit that has no request to take takes none. -/
theorem takeUpTo_of_none (n : Nat) {s : State} (h : nextRequest s = none) : takeUpTo n s = s := by
  induction n with
  | zero => rfl
  | succ n ih => rw [takeUpTo, takeOldest_of_none h, ih]

/-- A unit that has no request to take takes none of those that wait (R128). -/
theorem takeWaiting_of_none {s : State} (h : nextRequest s = none) : takeWaiting s = s := takeUpTo_of_none _ h

/-- With nothing due at the present offset, nothing comes before the next tick. -/
theorem settle_of_quiet {s : State} (hd : ∀ t, s.txD = some t → t.remaining ≠ 0)
    (hu : ∀ t, s.txU = some t → t.remaining ≠ 0) (hc : closeDue s = false) (ht : takeDue s = false)
    (hy : cycDue s = false) (hr : nextRequest s = none) : settle s = s := by
  rw [settle, settleClock_of_quiet hd hu hc ht hy, takeWaiting_of_none hr]

/-- A unit that is not READY has no request to take (R128). -/
theorem nextRequest_of_not_ready {s : State} (h : s.mgmt.mode ≠ .ready) : nextRequest s = none := by
  simp [nextRequest, h]

/-- An empty input queue gives no request to take (R129). -/
theorem nextRequest_of_empty {s : State} (h : s.mgmt.input = []) : nextRequest s = none := by
  simp [nextRequest, h]

/-- A request of the table is taken by its own step as any step takes its own. -/
theorem takeOp_eq (o : Op) (s : State) : ∃ run, takeOp o s = takeRequest (.op o) run s := by
  cases o <;> exact ⟨_, rfl⟩

/-- What the unit takes by itself is its oldest request, taken by the step that is the request's own; or it has none to
take (R129). -/
theorem takeOldest_cases (s : State) :
    nextRequest s = none ∧ takeOldest s = s ∨
    ∃ (f : FrameBytes) (run : FrameBytes → State → State),
      nextRequest s = some f ∧ takeOldest s = conclude s (run f (takeHead s)) := by
  cases hn : nextRequest s with
  | none => exact .inl ⟨rfl, takeOldest_of_none hn⟩
  | some f =>
    suffices h : ∃ run, takeOldest s = takeRequest (rowOf s.mgmt f) run s by
      obtain ⟨run, h⟩ := h
      exact .inr ⟨f, run, rfl, h.trans (takeRequest_taken hn rfl)⟩
    unfold takeOldest
    simp only [hn]
    cases rowOf s.mgmt f with
    | replay => exact ⟨_, rfl⟩
    | ignore => exact ⟨_, rfl⟩
    | unknown => exact ⟨fun f s => answerRequest f (refuse s .unknown), rfl⟩
    | op o => exact takeOp_eq o s

/-- What holds and is kept by each taking of a request holds after all that the unit takes by itself. -/
theorem takeWaiting_induction {P : State → Prop} {s : State} (h : P s)
    (ht : ∀ u, P u → nextRequest u ≠ none → P (takeOldest u)) : P (takeWaiting s) := by
  have hn : ∀ n u, P u → P (takeUpTo n u) := by
    intro n
    induction n with
    | zero => exact fun _ hu => hu
    | succ n ih =>
      intro u hu
      refine ih _ ?_
      by_cases hr : nextRequest u = none
      · rwa [takeOldest_of_none hr]
      · exact ht u hu hr
  exact hn _ s h

/-- Where each taking of a request shortens the input queue, as many takings as there are requests leave none that the
unit would take. -/
theorem takeUpTo_done (ht : ∀ u, nextRequest u ≠ none → (takeOldest u).mgmt.input.length < u.mgmt.input.length) :
    ∀ (n : Nat) (s : State), s.mgmt.input.length ≤ n → nextRequest (takeUpTo n s) = none
  | 0, s, h => nextRequest_of_empty (List.length_eq_zero_iff.1 (Nat.le_zero.1 h))
  | n + 1, s, h => by
    by_cases hr : nextRequest s = none
    · rwa [takeUpTo_of_none _ hr]
    · exact takeUpTo_done ht n _ (by have := ht s hr; omega)

/-! ### A tick of power-on -/

/-- A tick of power-on leaves a part without REFCLK as it is, counts under good conditions, or samples RESET# (R172). -/
theorem conditions_tick_cases (c : Conditions) :
    c.refclk = false ∧ c.tick = c ∨
    c.refclk = true ∧ c.good = true ∧ c.tick = { c with elapsed := min 4096 (c.elapsed + 1) } ∨
    c.refclk = true ∧ c.good = false ∧
      c.tick = { c with highSamples := if c.resetHigh then min 2 (c.highSamples + 1) else 0, elapsed := 0 } := by
  unfold Conditions.tick
  cases c.refclk <;> cases c.good <;> simp

/-! ### The decisions within a wrap -/

/-- The U transmitter arbiter decides within a wrap where what came before invokes it, and does nothing elsewhere
(R32). -/
theorem decideU_cases (before s : State) :
    invokesU before s = true ∧ decideU before s = arbiterU s ∨
    invokesU before s = false ∧ decideU before s = s := by
  unfold decideU
  cases invokesU before s <;> simp

/-- A wrap whose order names the requests takes none of them before it; any other takes those that wait. What is due at
the last offset comes first, unless the tick that is the wrap has come. -/
theorem settleBefore_cases (order : List WrapAct) (s : State) :
    ∃ t, (s.timer.wrapping = true ∧ t = s ∨ s.timer.wrapping = false ∧ t = settleClock s) ∧
      (.unit ∈ order ∧ settleBefore order s = t ∨ .unit ∉ order ∧ settleBefore order s = takeWaiting t) := by
  refine ⟨if s.timer.wrapping then s else settleClock s, ?_, ?_⟩
  · cases s.timer.wrapping <;> simp
  · unfold settleBefore
    by_cases h : WrapAct.unit ∈ order <;> simp [h]

/-! ### The tick that is the wrap -/

/-- The tick that is the wrap leaves the cycle number, the offset and CL as they are: the cycle has not ended yet. -/
@[simp] theorem comeToWrap_timer (s : State) : (comeToWrap s).timer = { s.timer with wrapping := true } := rfl

/-- The tick that is the wrap passes on the port U transmitter. -/
@[simp] theorem comeToWrap_txU (s : State) : (comeToWrap s).txU = elapse s.txU := rfl

/-- The tick that is the wrap passes on the port D transmitter. -/
@[simp] theorem comeToWrap_txD (s : State) : (comeToWrap s).txD = elapse s.txD := rfl

/-- A wrap is due before its tick comes, and not at a second one. -/
theorem reachWrap_cases (s : State) :
    s.timer.wrapping = false ∧ wrapDue s = true ∧ reachWrap s = comeToWrap s ∨
    (s.timer.wrapping = true ∨ wrapDue s = false) ∧ reachWrap s = s := by
  unfold reachWrap
  cases s.timer.wrapping <;> cases wrapDue s <;> simp

/-- A tick does nothing once the tick that is the wrap has come; before it, it takes all that is due, and then is that
tick or advances the offset. -/
theorem tickEvent_cases (s : State) :
    s.timer.wrapping = true ∧ tickEvent s = s ∨
    s.timer.wrapping = false ∧ wrapDue (settle s) = true ∧ tickEvent s = comeToWrap (settle s) ∨
    s.timer.wrapping = false ∧ wrapDue (settle s) = false ∧ tickEvent s = advance (settle s) := by
  unfold tickEvent
  cases s.timer.wrapping <;> cases h : wrapDue (settle s) <;> simp [h]

/-- TRANSMISSION_COMPLETE does nothing outside a run; it takes a completion that is due, if there is one; or it brings
the tick that is the wrap and completes the transmission that ends with it, unless a restart cut the cycle off. -/
theorem transmissionComplete_cases {p : Port} {s s' : State} (h : execTransmissionComplete p s = .next s') :
    s.power ≠ .running ∧ s' = s ∨
    s.power = .running ∧ endsWithWrap p s = false ∧ s' = finishPort p s ∨
    s.power = .running ∧ endsWithWrap p s = true ∧
      ((tickEvent s).timer.wrapping = true ∧ s' = finishPort p (tickEvent s) ∨
       (tickEvent s).timer.wrapping = false ∧ s' = s) := by
  unfold execTransmissionComplete at h
  injection h with h
  subst h
  by_cases hr : s.power = .running <;> simp only [hr, if_true, if_false]
  · cases he : endsWithWrap p s
    · exact .inr (.inl ⟨trivial, rfl, by simp⟩)
    · refine .inr (.inr ⟨trivial, rfl, ?_⟩)
      cases hw : (tickEvent s).timer.wrapping <;> simp [finishWithWrap, hw]
  · exact .inl ⟨hr, by simp⟩

/-- With one tick left before the wrap the transmission ends with it (R14). -/
theorem endsWithWrap_iff (p : Port) (s : State) :
    endsWithWrap p s = true ↔ s.timer.wrapping = false ∧ wrapDue s = true ∧ ticksLeft p s = some 1 := by
  simp [endsWithWrap, and_assoc]

/-! ### The order of the blocks at a wrap -/

/-- What an element of an order does to the actions still to be made: it takes out its own. -/
theorem blocks_filter_perm (bs rest : List WrapAct) (h : rest.Nodup) (hb : bs.Nodup) (ha : ∀ b ∈ bs, b ∈ rest) :
    (bs ++ rest.filter (· ∉ bs)).Perm rest := by
  refine (List.perm_ext_iff_of_nodup ?_ h).2 ?_
  · refine List.nodup_append.2 ⟨hb, h.filter _, ?_⟩
    intro a ha' b hb' hab
    simp only [List.mem_filter, decide_eq_true_eq] at hb'
    exact hb'.2 (hab ▸ ha')
  · intro a
    simp only [List.mem_append, List.mem_filter, decide_eq_true_eq]
    by_cases hm : a ∈ bs
    · simp [hm, ha a hm]
    · simp [hm]

/-- No element of an order makes an action twice. -/
theorem blocks_nodup (a : WrapAct) : a.blocks.Nodup := by
  cases a <;> simp [WrapAct.blocks]
  split <;> simp

/-- An action that stands in a list of plain actions makes that action. -/
theorem flatMap_blocks_default {l : List WrapAct} (h : ∀ a ∈ l, a ∈ defaultOrder) : l.flatMap WrapAct.blocks = l := by
  have hd : ∀ a ∈ defaultOrder, a.blocks = [a] := by decide
  induction l with
  | nil => rfl
  | cons a l ih =>
    rw [List.flatMap_cons, hd a (h a (by simp)), ih fun b hb => h b (by simp [hb])]
    rfl

/-- Whatever order a command names, each block acts exactly once at a wrap (R56). -/
theorem fullOrder_perm (order rest : List WrapAct) (h : rest.Nodup) (hs : ∀ a ∈ rest, a ∈ defaultOrder) :
    ((fullOrder order rest).flatMap WrapAct.blocks).Perm rest := by
  induction order generalizing rest with
  | nil => rw [fullOrder, flatMap_blocks_default hs]
  | cons a order ih =>
    unfold fullOrder
    split
    · rename_i ha
      have hm : ∀ b ∈ a.blocks, b ∈ rest := by simpa using ha
      rw [List.flatMap_cons]
      refine ((ih _ (h.filter _) fun b hb => hs b (List.mem_filter.1 hb).1).append_left _).trans ?_
      exact blocks_filter_perm _ _ h (blocks_nodup a) hm
    · exact ih rest h hs

/-- The default order names each block once. -/
theorem defaultOrder_nodup : defaultOrder.Nodup := by decide

end Sys2Proof.Machine
end

