-- ==== Sys2Proof/Tests/Slice0.lean ====
section
/-! SUPPORT. Tests/Slice0.lean: one or two small tests of each command, with expected values from the data sheet, and
for each obligation with hypotheses a state and operands that meet them. -/

set_option maxRecDepth 10000

namespace Sys2Proof.Tests

open Sys2Proof.Machine Sys2Proof.Safety Sys2Proof.Claims

/-! ### Helpers -/

/-- The state a command leaves. -/
def ran (c : Instr) (s : State) : State :=
  match exec c s with
  | .next t => t
  | .fault _ => s
  | .refused _ => s

/-- The part of section 10.1 with both lines UP and no note waiting. -/
def live : State := { State.reset with portU := { link := .up }, portD := { link := .up }, notes := {} }

/-- A request frame to address 5 with TAG 1. -/
def ask (op : Byte) (args : List Byte) : FrameBytes := [5, 0x60, 1, BitVec.ofNat 8 (1 + args.length), op] ++ args ++ [0, 0]

/-- The same request by broadcast. -/
def call (op : Byte) (args : List Byte) : FrameBytes := [127, 0x60, 1, BitVec.ofNat 8 (1 + args.length), op] ++ args ++ [0, 0]

/-- The state with one request waiting. -/
def asked (f : FrameBytes) (s : State) : State := { s with mgmt := { s.mgmt with input := [f] } }

/-- STATUS, node address and result of the last frame in the outbox. -/
def reply (s : State) : List Byte := (payloadOf ((s.mgmt.outbox.getLast?.map Reply.bytes).getD [])).drop 1

/-- Entry 0 of section 10.1: TAG 0x010, DEPTH 2, REPLACE, AGE_LIMIT 2. -/
def entry0 : Stream := { valid := true, tag := 0x010, depth := 2, policy := .replace, ageLimit := 2 }

/-- A frame held in a buffer. -/
def held (b : BufId) (age : Nat) : Held := { buffer := b, len := 24, arrivalCycle := 0, arrivalOffset := 0, age := age }

/-- A DATA frame of TAG 0x010 without payload. -/
def dataFrame : FrameBytes := [9, 0x20, 0x10, 0, 0, 0]

/-- The live part with entry 0 holding frames in buffers 0 and on, of the ages given. -/
def holding0 (ages : List Nat) : State :=
  let q := ages.mapIdx fun k a => held (Fin.ofNat 64 k) a
  { setStream 0 { entry0 with queue := q } live with
    pool := Vector.ofFn fun b => if b.val < ages.length then { state := .queued, bytes := dataFrame } else {} }

/-- Slot S0 of section 10.1: OPEN 3,000, SPAN 600, stream 0. -/
def slot0 : Slot := { openAt := 3000, span := 600, stream := 0, quota := 1, every := 1, phase := 0, once := false }

/-- Slot S1 of section 10.1: OPEN 20,000, SPAN 400, stream 1. -/
def slot1 : Slot := { openAt := 20000, span := 400, stream := 1, quota := 1, every := 1, phase := 0, once := false }

/-- The state with an active plan of S0 and S1, at an offset. -/
def planned (offset : Nat) (s : State) : State :=
  { s with
    plan := { s.plan with active := [{ slot := slot0 }, { slot := slot1 }] }
    timer := { s.timer with offset := offset }
    cyc := decide (offset < 32) }

/-- The window of S0. -/
def window0 : Window :=
  { position := 0, openAt := 3000, closeAt := 3600, stream := 0, quota := 1, once := false, released := 0,
    phase := .opened, onLine := false }

/-- The state with the window of S0 standing. -/
def windowed (offset : Nat) (s : State) : State :=
  let t := planned offset s
  { t with win := true, engine := { t.engine with window := some window0, nextSlot := 1 } }

/-- The state one tick before the wrap. -/
def lastTick (s : State) : State :=
  { s with timer := { s.timer with offset := s.timer.cl - 1 }, cyc := false }

/-- The sync settings of section 10.1. -/
def settings1 : SyncSettings :=
  { enable := true, markOffset := 1000, lockWindow := 50, slewLimit := 20, missLimit := 3, holdoverLimit := 64,
    lostPolicy := .close }

/-- The end of a cycle of section 10.4: number, length, mode, counts, and the capture if one was made. -/
def ending1 (n : Cycle) (cl : Nat) (m : SyncMode) (k : SyncCounts) (c : Option (Nat × Cycle)) : State :=
  lastTick
    { live with
      timer := { cycle := n, offset := 0, cl := cl }
      sync :=
        { live.sync with
          mode := m
          counts := k
          settings := settings1
          capture := c.map fun x => { offset := x.1, localCycle := n, markNumber := x.2, double := false } } }

/-- A port's receiver at work. -/
def receiving (p : Port) (rx : Receiver) (s : State) : State := s.setPort p { link := .up, rx := rx }

/-- A receiver whose next byte is the fourth of a frame. -/
def atHeader (b0 b1 b2 : Byte) : Receiver := { state := .header, count := 3, header := [b0, b1, b2] }

/-- A receiver whose next byte, `b`, ends a good frame of the header given: its CHECK is whole with `b`. -/
def atEnd (header : FrameBytes) (route : Route) (buffer : Option BufId) : Receiver :=
  { state := .body, count := 5 + lenOf header, header := header, crc := 0x1234, check := 0x12, route := some route,
    buffer := buffer }

/-! ### Well-formedness (the checks refuse ill-formed operands) -/

theorem test_wellFormed_resetLow_none : (Instr.powerOn (.resetLow 0)).wellFormed = false := by decide

theorem test_wellFormed_goodTicks :
    ([4095, 4097].all fun n => !(Instr.powerOnComplete n 5 .up .up false).wellFormed) = true := by decide

theorem test_wellFormed_wrap_twice :
    ([[WrapAct.sync, .close, .sync], [.ageAmid 3 1 true true, .notes], [.age 3, .ageAmid 3 0 false true]].all fun o =>
      !(Instr.wrap o).wellFormed) = true := by decide

theorem test_wellFormed_limits_twice :
    ([Instr.missLimitReached [.sync, .sync], .holdoverLimitReached [.plan, .plan], .staleRemoval [.age 1, .age 1],
      .holdExpiry [.close, .close], .noteTimeout [.notes, .notes]].all fun i => !i.wellFormed) = true := by decide

theorem test_wellFormed_good :
    ([Instr.powerOn (.resetLow 2), .powerOnComplete 4096 0 .down .up true, .wrap [.close, .grantU, .sync, .age 3, .grantU, .unit], .tick].all
      Instr.wellFormed) = true := by decide

/-! ### Bytes -/

/-- The published check value of this CHECK polynomial and start value, over the digits 1 to 9. -/
theorem test_crc16_digits : crc16 [0x31, 0x32, 0x33, 0x34, 0x35, 0x36, 0x37, 0x38, 0x39] = 0x29B1 := by decide

/-- R14: a frame of LEN 24 occupies a transmitter for 128 ticks (section 10.3). -/
theorem test_occupancy_24 : occupancy 24 = 128 := by decide

/-- No word of the table spells a command. -/
theorem test_decodeTableWord : decodeTableWord 8 1 = none := by decide

/-! ### Power, lines and reception -/

/-- R172: a low of RESET# at one tick is not taken as low; at two ticks it begins power-on. -/
theorem test_powerOn_low :
    (ran (.powerOn (.resetLow 1)) live).power = .running ∧ (ran (.powerOn (.resetLow 2)) live).power = .poweringOn := by decide

/-- The part powering on under the conditions `c`. -/
def powering (c : Conditions) : State := { live with power := .poweringOn, conditions := c }

/-- R172: RESET# must be sampled high at two consecutive ticks, a low between them begins the sampling again, and the
ticks count after it. -/
theorem test_powerOn_samples :
    let s := ran (.powerOn .resetHigh) (ran (.powerOn (.resetLow 3)) live)
    (ran .tick (ran .tick (ran .tick s))).conditions.elapsed = 1 ∧
      (ran .tick (ran .tick (ran (.powerOn (.resetLow 1)) (ran .tick s)))).conditions.elapsed = 0 := by decide

/-- Section 10.1: the note queue and the counters at power-on completion, which does not come a tick early. -/
theorem test_powerOnComplete :
    let t := ran (.powerOnComplete 4096 5 .up .up false) (ran .tick (powering { elapsed := 4095 }))
    t.notes.queue.map NoteRecord.occ = [.started .powerOn, .linkChange .u .up, .linkChange .d .up] ∧
      t.portU.counters.linkChanges = 1 ∧ t.timer.cl = 50000 ∧
      (ran (.powerOnComplete 4096 5 .up .up false) (powering { elapsed := 4095 })).power = .poweringOn := by decide

/-- R142: straps reading 127 leave the part unaddressed, and it records no note. -/
theorem test_powerOnComplete_unaddressed :
    let t := ran (.powerOnComplete 4096 127 .up .down true) (powering { elapsed := 4096 })
    t.power = .running ∧ t.notes.queue = [] := by decide

/-- R17: a frame in BODY ends as MALFORMED as its line goes DOWN, and its buffer is freed. -/
theorem test_linkChange_cuts :
    let t := ran (.linkChange .u .down)
      (receiving .u { state := .body, count := 4, header := [9, 0x20, 0x10, 0], route := some .pass, buffer := some 0 }
        { live with pool := live.pool.set 0 { state := .filling, bytes := [9, 0x20, 0x10, 0] } })
    t.portU.counters.rxMalformed = 1 ∧ t.portU.counters.linkChanges = 1 ∧ t.pool[(0 : BufId)].state = .free := by decide

/-- R4: a MARK with LEN 5 is MALFORMED. -/
theorem test_headerTime_bad_mark :
    (ran (.headerTime .u 5) (receiving .u (atHeader 127 0x40 0) live)).portU.counters.rxMalformed = 1 := by decide

/-- R7: DATA with the TAG of entry 0 takes the lowest buffer and is matched. -/
theorem test_headerTime_matched :
    let t := ran (.headerTime .u 0) (receiving .u (atHeader 9 0x20 0x10) (holding0 []))
    t.portU.rx.route = some (.hold 0) ∧ t.portU.rx.buffer = some 0 ∧ t.pool[(0 : BufId)].state = .filling := by decide

/-- Section 10.3, offset 1,200 of cycle 61,302: a full queue under REPLACE loses its head. -/
theorem test_frameEnd_supersedes :
    let t := ran (.frameEnd .u 0x34) (receiving .u (atEnd [9, 0x20, 0x10, 0] (.hold 0) (some 7)) (holding0 [1, 1]))
    (t.stream 0).queue.map Held.buffer = [1, 7] ∧ (t.stream 0).counters.superseded = 1 ∧
      (t.stream 0).counters.arrived = 1 := by decide

/-- R60: a MARK is captured with the offset, the cycle number and its number. -/
theorem test_frameEnd_mark :
    (ran (.frameEnd .u 0x34)
      (receiving .u (atEnd [127, 0x40, 0, 4] .mark none)
        { live with markArea := [127, 0x40, 0, 4, 0, 0, 0xEF, 0x10, 0], timer := { offset := 13345, cycle := 3 } })).sync.capture =
      some { offset := 13345, localCycle := 3, markNumber := 61200, double := false } := by decide

/-- R3: the first byte opens a frame. -/
theorem test_firstByteOfFrame :
    (ran (.firstByteOfFrame .d 9) live).portD.rx.state = .header := by decide

/-- R172: a part that is powering on receives nothing. -/
theorem test_firstByteOfFrame_powering :
    (ran (.firstByteOfFrame .d 9) { live with power := .poweringOn }).portD.rx.state = .idle := by decide

/-! ### The clock -/

/-- R55, and R129: a waiting request is taken before the next tick. -/
theorem test_tick :
    let t := ran .tick
      (asked (ask 0x0F [4]) { live with timer := { offset := 7 }, txD := some { source := .mark, bytes := [], remaining := 9 } })
    t.timer.offset = 8 ∧ t.txD.map Transmission.remaining = some 8 ∧ t.mgmt.input = [] ∧ t.plan.mode = .held := by decide

/-- R55: the tick that would reach CL is the wrap, which is still to be taken: the offset stays, and no tick follows. -/
theorem test_tick_not_at_wrap :
    let t := ran .tick (lastTick live)
    t.timer.offset = 49999 ∧ t.timer.wrapping = true ∧ ran .tick t = t := by decide

/-- R14, with the 36 ticks of a 1-byte payload: a frame granted at the last offset has used the wrap's tick after the wrap,
and one granted by an early completion there has not. -/
theorem test_occupancy_over_wrap :
    let s := { lastTick live with stores := { live.stores with mark := some [0, 0x40, 0, 1] } }
    (ran (.wrap []) (arbiterD s)).txD.map Transmission.remaining = some 35 ∧
      (ran (.wrap []) (ran (.transmissionComplete .d)
        { s with txD := some { source := .mark, bytes := [], remaining := 1 } })).txD.map Transmission.remaining =
          some 36 := by decide

/-- R14, R92, R159: a window that closes at the last offset closes before an early completion, whose grant then has its
whole occupancy after the wrap. -/
theorem test_close_before_early_completion :
    let u := windowed 3600 (holding0 [0])
    let t := ran (.transmissionComplete .u)
      { u with
        timer := { u.timer with cl := 3601 }
        txU := some { source := .note, bytes := [], remaining := 1 }
        txD := some { source := .mark, bytes := [], remaining := 9 } }
    (t.stream 0).counters.missed = 1 ∧ t.portU.counters.txFrames = 1 ∧ t.timer.wrapping = true ∧
      t.txU.map Transmission.remaining = (ran (.wrap []) t).txU.map Transmission.remaining ∧ t.txU.isSome = true := by
  decide

theorem test_cycFall : (ran .cycFall { live with timer := { offset := 32 } }).cyc = false := by decide

theorem test_cycFall_early : (ran .cycFall { live with timer := { offset := 31 } }).cyc = true := by decide

/-- Section 10.3, offset 3,000 of cycle 61,301: the window opens and the head is granted at once. -/
theorem test_slotTake_opens :
    let t := ran .slotTake (planned 3000 (holding0 [1, 0]))
    t.win = true ∧ t.engine.window.map Window.phase = some .done ∧ (t.stream 0).queue.length = 1 ∧
      t.plan.counters.windowsOpened = 1 := by decide

/-- Section 10.5: with the gate shut a slot is skipped. -/
theorem test_slotTake_skips :
    let s := planned 3000 (holding0 [0])
    let t := ran .slotTake { s with plan := { s.plan with mode := .held } }
    t.engine.window = none ∧ t.plan.counters.windowsSkipped = 1 := by decide

/-- R92: a window closing OPEN with a frame held counts MISSED. -/
theorem test_windowClose_missed :
    let t := ran .windowClose (windowed 3600 { holding0 [0] with txD := some { source := .mark, bytes := [], remaining := 9 } })
    (t.stream 0).counters.missed = 1 ∧ t.win = false ∧ t.engine.window = none ∧
      t.notes.queue.map NoteRecord.occ = [.missedWindow 0 3000] := by decide

/-- R90: a release completes, and RELEASED counts. -/
theorem test_transmissionComplete_release :
    let t := ran (.transmissionComplete .d)
      { holding0 [] with txD := some { source := .release 3 (some 0), bytes := dataFrame, remaining := 0 } }
    (t.stream 0).counters.released = 1 ∧ t.txD = none ∧ t.portD.counters.txFrames = 1 := by decide

/-- R141: the reply to RESTART completes and every block restarts; a LOCKED entry keeps its configuration. -/
theorem test_transmissionComplete_restart :
    let s := setStream 1 { entry0 with tag := 0x011 } (setStream 0 { entry0 with locked := true } live)
    let t := ran (.transmissionComplete .u)
      { s with
        mgmt := { s.mgmt with mode := .restarting, outbox := [{ bytes := [], ofRestart := true }] }
        txU := some { source := .reply, bytes := [], remaining := 0 } }
    (t.stream 0).valid = true ∧ (t.stream 1).valid = false ∧ t.mgmt.mode = .ready ∧
      t.notes.queue.map NoteRecord.occ = [.started .restart] := by decide

/-! ### The wrap -/

/-- Section 10.4: a step at the wrap at t = 200,000, and at t = 412,354 the fourth good capture, which brings LOCKED. -/
theorem test_wrap_acquire :
    (let t := ran (.wrap []) (ending1 3 50000 .acquire {} (some (13345, 61200)))
     t.timer = { cycle := 61201, offset := 0, cl := 62345 } ∧ t.sync.counters.steps = 1 ∧ t.sync.counts.good = 0) ∧
    (let t := ran (.wrap []) (ending1 61204 50003 .acquire { good := 3 } (some (1006, 61204)))
     t.sync.mode = .locked ∧ t.timer = { cycle := 61205, offset := 0, cl := 50003 } ∧
       t.notes.queue.map NoteRecord.occ = [.syncState .acquire .locked]) := by decide

/-- A part whose active plan begins with a window at OPEN 0, both slots taken. -/
def fromZero (s : State) : State :=
  { s with
    plan := { s.plan with active := [{ slot := { slot0 with openAt := 0 } }, { slot := slot1 }] }
    engine := { s.engine with nextSlot := 2 } }

/-- The same at its last tick. -/
def zeroPlanned (s : State) : State := lastTick (fromZero s)

/-- R87, R97, R119: a slot with OPEN 0 is taken within the wrap, opened or, at a hold expiry, skipped; a waiting HOLD comes
before the wrap, so that the slot is skipped, or after it, so that the slot has opened. -/
theorem test_wrap_zero :
    (ran (.wrap []) (zeroPlanned live)).win = true ∧
    (ran (.wrap []) (zeroPlanned { live with plan := { live.plan with mode := .held, holdLimit := 4, holdCount := 3 } })).plan.counters.windowsSkipped = 1 ∧
    (ran (.wrap []) (asked (ask 0x0F [4]) (zeroPlanned live))).plan.counters.windowsSkipped = 1 ∧
    (let t := ran (.wrap [.unit]) (asked (ask 0x0F [4]) (zeroPlanned live))
     t.plan.counters.windowsOpened = 1 ∧ t.mgmt.input.length = 1) := by decide

/-- R70: the third miss of MISS_LIMIT 3 enters HOLDOVER with no adjustment. -/
theorem test_missLimitReached :
    let t := ran (.missLimitReached []) (ending1 7 50003 .locked { good := 4, miss := 2 } none)
    t.sync.mode = .holdover ∧ t.sync.counters.misses = 1 ∧ t.timer.cl = 50000 := by decide

/-- A step named for a limit that is not reached at the wrap does nothing (log entry 2). -/
theorem test_missLimitReached_early :
    (ran (.missLimitReached []) (ending1 7 50003 .locked { good := 4, miss := 1 } none)).sync.counts.miss = 1 := by decide

/-- R71: the last cycle of HOLDOVER_LIMIT 64 leads to ACQUIRE and counts LOCK_LOSSES. -/
theorem test_holdoverLimitReached :
    let t := ran (.holdoverLimitReached []) (ending1 7 50000 .holdover { good := 4, miss := 3, holdover := 63 } none)
    t.sync.mode = .acquire ∧ t.sync.counters.lockLosses = 1 := by decide

/-- Section 10.5, the wrap into 62,004: P1 goes stale, P2 stays with AGE 2. -/
theorem test_staleRemoval :
    let t := ran (.staleRemoval []) (lastTick (holding0 [2, 1]))
    (t.stream 0).queue.map Held.age = [2] ∧ (t.stream 0).counters.stale = 1 ∧ t.pool[(0 : BufId)].state = .free := by decide

/-- Section 10.5, the wrap into 62,004: the hold expires at its limit, and the switch waits on. -/
theorem test_holdExpiry :
    let t := ran (.holdExpiry [])
      (lastTick { live with plan := { live.plan with mode := .heldPending, target := .atCycle 10, holdLimit := 4, holdCount := 3 } })
    t.plan.mode = .pending ∧ t.plan.holdCount = 0 ∧ t.plan.resumeGuard = 0 ∧ t.plan.counters.holdExpiries = 1 := by decide

/-- A note head awaiting its acknowledgement. -/
def awaiting (attempts wait : Nat) : NoteRecord :=
  { occ := .holdExpired, count := 1, first := 0, last := 0, seq := some 9, attempts := attempts, state := .awaitingAck,
    wait := wait }

/-- The live part with one note awaiting its acknowledgement, port U busy. -/
def noted (attempts wait : Nat) : State :=
  { live with
    notes := { live.notes with queue := [awaiting attempts wait] }
    txU := some { source := .reply, bytes := [], remaining := 9 } }

/-- R160: at RETRY the note is offered again, and after its third transmission abandoned. -/
theorem test_noteTimeout :
    (let t := ran (.noteTimeout []) (lastTick (noted 2 3))
     t.notes.queue.map NoteRecord.state = [.waiting] ∧ t.notes.counters.notesAbandoned = 0) ∧
    (let t := ran (.noteTimeout []) (lastTick (noted 3 3))
     t.notes.queue = [] ∧ t.notes.counters.notesAbandoned = 1) := by decide

/-- The COUNT and ATTEMPTS of each record of the note queue after a wrap that abandons the head and makes two held frames
stale, the second record being of that kind and stream. -/
def afterAbandonment (order : List WrapAct) : List (Nat × Nat) :=
  let s := holding0 [2, 2]
  let t := ran (.noteTimeout order) (lastTick { s with notes := { s.notes with queue := [awaiting 3 3, newRecord (.stale 0) 0] } })
  t.notes.queue.map fun r => (r.count, r.attempts)

/-- R156, first row: the occurrences coalesce into the new head before its grant; or the grant comes first, and they are
a new record; or the grant falls between them. -/
theorem test_noteTimeout_grant_falls_with_occurrence :
    afterAbandonment [] = [(3, 1)] ∧ afterAbandonment [.notes, .grantU] = [(1, 1), (2, 0)] ∧
      afterAbandonment [.ageAmid 0 1 true true] = [(2, 1), (1, 0)] := by decide

/-! ### Requests -/

/-- Section 10.1, TAG 1. -/
theorem test_ident :
    let t := ran .ident
      (asked (ask 0x01 []) { live with notes := { live.notes with queue := [newRecord .holdExpired 0, newRecord .doubleMark 0, newRecord .inputOverrun 0] } })
    reply t = [0, 5, 0x5B, 0x1D, 0x32, 0x64, 2, 5, 0, 0, 0, 0, 0, 64, 0, 0, 0, 0, 3] := by decide

/-- Section 10.1, TAG 3. -/
theorem test_streamWrite :
    let t := ran .streamWrite (asked (ask 0x02 [0, 0, 0x10, 2, 1, 2]) live)
    reply t = [0, 5] ∧ t.stream 0 = entry0 := by decide

/-- R46: a TAG that another valid entry has is a DUPLICATE, status 5. -/
theorem test_streamWrite_duplicate :
    reply (ran .streamWrite (asked (ask 0x02 [1, 0, 0x10, 2, 1, 2]) (holding0 []))) = [5, 5] := by decide

/-- R47: the held frames are removed and counted in the reply. -/
theorem test_streamDelete :
    let t := ran .streamDelete (asked (ask 0x03 [0]) (holding0 [0, 0]))
    reply t = [0, 5, 2] ∧ (t.stream 0).valid = false ∧ freeCount t = 64 := by decide

/-- R47: an entry that the active plan names is IN_USE, status 8. -/
theorem test_streamDelete_inUse :
    reply (ran .streamDelete (asked (ask 0x03 [0]) (planned 0 (holding0 [])))) = [8, 5] := by decide

theorem test_streamLock :
    (ran .streamLock (asked (ask 0x04 [0]) (holding0 []))).stream 0 = { entry0 with locked := true } := by decide

/-- R50: STREAM_READ of an invalid entry is ABSENT, status 4. -/
theorem test_streamRead_absent : reply (ran .streamRead (asked (ask 0x05 [31]) live)) = [4, 5] := by decide

/-- R145: a STREAM_READ reply has LEN 48. -/
theorem test_streamRead_length : (reply (ran .streamRead (asked (ask 0x05 [0]) (holding0 [1])))).length = 47 := by decide

theorem test_streamPurge :
    let t := ran .streamPurge (asked (ask 0x06 [0]) (holding0 [0, 0]))
    reply t = [0, 5, 2] ∧ (t.stream 0).counters.purged = 2 ∧ (t.stream 0).valid = true := by decide

/-- Section 10.1, TAG 8: S1 is placed at position 1. -/
theorem test_slotAdd :
    let t := ran .slotAdd
      (asked (ask 0x07 [0, 0, 0x4E, 0x20, 0x01, 0x90, 1, 1, 1, 0, 0]) { live with plan := { live.plan with staged := [slot0] } })
    reply t = [0, 5, 1] ∧ t.plan.staged = [slot0, slot1] := by decide

/-- R106: a window may abut the next one, and may not enter it (OVERLAP, status 6). -/
theorem test_slotAdd_abut :
    let s : State := { live with plan := { live.plan with staged := [slot0] } }
    reply (ran .slotAdd (asked (ask 0x07 [0, 0, 0x0B, 0x54, 0, 100, 1, 1, 1, 0, 0]) s)) = [0, 5, 0] ∧
      reply (ran .slotAdd (asked (ask 0x07 [0, 0, 0x0B, 0x54, 0, 101, 1, 1, 1, 0, 0]) s)) = [6, 5] := by decide

/-- Section 10.5: SLOT_DROP 20,000 answers position 1. -/
theorem test_slotDrop :
    let t := ran .slotDrop (asked (ask 0x08 [0, 0, 0x4E, 0x20]) { live with plan := { live.plan with staged := [slot0, slot1] } })
    reply t = [0, 5, 1] ∧ t.plan.staged = [slot0] := by decide

/-- Section 10.1, TAG 9. -/
theorem test_slotRead :
    reply (ran .slotRead (asked (ask 0x09 [0, 0]) { live with plan := { live.plan with staged := [slot0, slot1] } })) =
      [0, 5, 0, 0, 0, 0, 0, 0, 0, 0, 0xC3, 0x50, 0, 0, 0xC3, 0x50, 0, 2, 0, 0, 2,
       0, 0, 0x0B, 0xB8, 0x02, 0x58, 0, 1, 1, 0, 0, 0] := by decide

theorem test_stageEmpty :
    let t := ran .stageEmpty (asked (ask 0x0A []) { live with plan := { live.plan with staged := [slot0, slot1] } })
    reply t = [0, 5, 2] ∧ t.plan.staged = [] := by decide

/-- Section 10.5: STAGE_FROM_ACTIVE copies 2. -/
theorem test_stageFromActive :
    let t := ran .stageFromActive (asked (ask 0x0B []) (planned 0 live))
    reply t = [0, 5, 2] ∧ t.plan.staged = [slot0, slot1] := by decide

/-- R110: L of 2,499 is out of range (ARG, status 3), 50,003 is not. -/
theorem test_cycleStage :
    reply (ran .cycleStage (asked (ask 0x0C [0, 0, 0x09, 0xC3]) live)) = [3, 5] ∧
      (ran .cycleStage (asked (ask 0x0C [0, 0, 0xC3, 0x53]) live)).plan.stagedL = 50003 := by decide

/-- Section 10.2: a SWITCH whose staged plan names an invalid entry is answered VERIFY, DANGLING, OPEN 8,000. -/
theorem test_switch_dangling :
    reply (ran .switch
      (asked (ask 0x0D [1, 0, 0, 0, 4])
        { live with plan := { live.plan with staged := [{ slot0 with openAt := 8000, stream := 7 }] } })) =
      [11, 5, 1, 0, 0, 0x1F, 0x40] := by decide

/-- Section 10.2: a target at distance 0 is answered ARG, and at distance 1 accepted. -/
theorem test_switch_distance :
    reply (ran .switch (asked (ask 0x0D [1, 0, 0, 0, 0]) live)) = [3, 5] ∧
      (ran .switch (asked (ask 0x0D [1, 0, 0, 0, 1]) live)).plan.target = .atCycle 1 := by decide

/-- Section 10.2: WITHDRAW in STEADY is answered STATE, status 2. -/
theorem test_withdraw :
    reply (ran .withdraw (asked (ask 0x0E []) live)) = [2, 5] ∧
      reply (ran .withdraw (asked (ask 0x0E []) { live with plan := { live.plan with mode := .pending, target := .atCycle 7 } })) =
        [0, 5, 1, 0, 0, 0, 7] := by decide

/-- Section 10.5, offset 20,150: HOLD in PENDING ends the window with no MISSED. -/
theorem test_hold :
    let s := windowed 3100 (holding0 [0])
    let t := ran .hold (asked (ask 0x0F [4])
      { s with plan := { s.plan with mode := .pending, target := .atCycle 9 }, txD := some { source := .mark, bytes := [], remaining := 9 } })
    t.plan.mode = .heldPending ∧ t.plan.holdLimit = 4 ∧ t.win = false ∧ t.engine.window = none ∧
      (t.stream 0).counters.missed = 0 := by decide

/-- Section 10.5: a HOLD before two wraps have passed is TOO_SOON, status 10. -/
theorem test_hold_tooSoon :
    reply (ran .hold (asked (ask 0x0F [4]) { live with plan := { live.plan with resumeGuard := 1 } })) = [10, 5] := by decide

/-- R122: RESUME carries the cycle and the offset at which it is taken, the resume offset. -/
theorem test_resume :
    let t := ran .resume
      (asked (ask 0x10 []) { live with plan := { live.plan with mode := .held, holdLimit := 4, holdCount := 2 }, timer := { cycle := 3, offset := 500 } })
    reply t = [0, 5, 0, 0, 0, 3, 0, 0, 0x01, 0xF4] ∧ t.plan.mode = .steady ∧ t.plan.resumeGuard = 0 ∧
      t.engine.resumeOffset = some 500 := by decide

/-- Section 10.1, TAG 6. -/
theorem test_syncConfig :
    let t := ran .syncConfig (asked (ask 0x11 [1, 0, 0, 0x03, 0xE8, 0, 50, 0, 20, 3, 64, 1]) live)
    reply t = [0, 5] ∧ t.sync.mode = .acquire ∧ t.sync.settings = settings1 ∧ gateOpen t = false ∧
      t.notes.queue.map NoteRecord.occ = [.syncState .free .acquire] := by decide

/-- R78: SYNC_READ with no capture. -/
theorem test_syncRead :
    reply (ran .syncRead (asked (ask 0x12 []) live)) =
      [0, 5, 0, 0, 0, 0, 0, 0, 0, 0, 0, 0, 0, 0, 0, 0, 0, 0xC3, 0x50] ++ List.replicate 14 0 := by decide

/-- Section 10.4: TRACE_READ of 5 entries from 0 is answered in three frames, two of LEN 55 and one of LEN 31. -/
theorem test_traceRead :
    let t := ran .traceRead (asked (ask 0x13 [0, 5]) live)
    (t.mgmt.outbox ++ t.mgmt.parts).map (fun r => lenOf r.bytes) = [55, 55, 31] ∧ t.mgmt.outbox.length = 2 := by decide

/-- Section 10.1, TAG 11: COUNT_READ PLAN answers and zeroes the group. -/
theorem test_countRead :
    let t := ran .countRead (asked (ask 0x14 [4]) { live with plan := { live.plan with counters := { switchesDone := 1 } } })
    reply t = [0, 5, 4, 0, 0, 0, 1] ++ List.replicate 20 0 ∧ t.plan.counters = {} := by decide

/-- R166: a code that names no group is ARG, the group of an invalid entry ABSENT. -/
theorem test_countRead_refused :
    reply (ran .countRead (asked (ask 0x14 [7]) live)) = [3, 5] ∧
      reply (ran .countRead (asked (ask 0x14 [0x3F]) live)) = [4, 5] := by decide

/-- R155, R161: an acknowledged head leaves; from a full queue with a tally a LOST record follows it. -/
theorem test_noteAck :
    let t := ran .noteAck
      (asked (ask 0x15 [9]) { noted 1 0 with notes := { queue := awaiting 1 0 :: List.replicate 15 (newRecord (.linkChange .u .up) 0), tally := 3 } })
    reply t = [0, 5] ∧ t.notes.queue.length = 16 ∧ t.notes.queue.getLast?.map NoteRecord.occ = some (.lost 3) := by decide

theorem test_noteConfig :
    let t := ran .noteConfig (asked (ask 0x16 [0x0F, 0xDF, 64]) live)
    t.notes.mask = 0xFDF ∧ t.notes.retry = 64 := by decide

theorem test_passConfig :
    let t := ran .passConfig (asked (ask 0x17 [1, 0x03, 0xFF]) live)
    t.mgmt.unmatched = .drop ∧ t.mgmt.guardMargin = 1023 := by decide

/-- R140: RESTART is answered OK and the unit is RESTARTING. -/
theorem test_restart :
    let t := ran .restart (asked (ask 0x18 []) live)
    reply t = [0, 5] ∧ t.mgmt.mode = .restarting := by decide

/-- R130: OP 0x19 is UNKNOWN, status 12. -/
theorem test_unknownRequest : reply (ran .unknownRequest (asked (ask 0x19 []) live)) = [12, 5] := by decide

/-- R135: a copy of the cached request is answered from the cache and executes nothing. -/
theorem test_requestReplay :
    let t := ran .requestReplay
      (asked (ask 0x0F [4])
        { live with mgmt := { live.mgmt with cache := some { tag := 1, payload := [0x0F, 4], replies := [[1, 2]] } } })
    t.mgmt.outbox = [{ bytes := [1, 2], ofRestart := false }] ∧ t.plan.mode = .steady ∧ t.mgmt.counters.replays = 1 := by decide

/-- R137: IDENT by broadcast is ignored and counted. -/
theorem test_broadcastIgnore :
    let t := ran .broadcastIgnore (asked (call 0x01 []) live)
    t.mgmt.outbox = [] ∧ t.mgmt.counters.broadcastIgnored = 1 := by decide

/-- Section 10.2: C refuses the broadcast SWITCH and reports OP 0x0D and STATUS 11. -/
theorem test_switch_broadcast_refused :
    let t := ran .switch
      (asked (call 0x0D [1, 0, 0, 0, 4]) { live with plan := { live.plan with staged := [{ slot0 with openAt := 8000, stream := 7 }] } })
    t.notes.queue.map NoteRecord.occ = [.broadcastRefused 0x0D 11] ∧ t.mgmt.outbox = [] ∧ t.plan.mode = .steady := by decide

/-! ## Witnesses: for each obligation with hypotheses, a state and operands that meet them -/

/-! ### Queue, power and lines -/

theorem witness_StepTakesTheFrontCommand :
    ({ live with pending := [.tick, .ident] } : State).pending = .tick :: [.ident] ∧ live.pending = [] := by decide

theorem witness_PowerOnBegins :
    live.power = .running ∧ 2 ≤ live.conditions.highSamples ∧
      (powering { resetHigh := false, highSamples := 1 }).power = .poweringOn ∧
      (powering { resetHigh := false, highSamples := 1 }).conditions.highSamples < 2 ∧ 2 ≤ 2 := by decide

theorem witness_PowerOnCompletes :
    (let s := powering { elapsed := 4096 }
     s.power = .poweringOn ∧ (s.conditions.supplies = true ∧ s.conditions.refclk = true ∧ 2 ≤ s.conditions.highSamples) ∧
       s.conditions.elapsed = 4096) ∧
    (powering { elapsed := 4095 }).conditions.elapsed ≠ 4096 ∧ (powering { refclk := false }).conditions.refclk = false ∧
    (let c := (powering { resetHigh := false, highSamples := 1 }).conditions
     c.refclk = true ∧ ¬ (c.supplies = true ∧ c.refclk = true ∧ 2 ≤ c.highSamples)) ∧
    live.power = .running ∧ 4095 ≠ 4096 ∧ (5 : NodeAddr) ≠ 0 ∧ (5 : NodeAddr) ≠ 127 ∧ (0 : NodeAddr) = 0 ∧ (127 : NodeAddr) = 127 := by decide

theorem witness_LinkReportTaken :
    live.power = .running ∧ (live.port .u).link = .up ∧ (live.port .d).link ≠ .down := by decide

/-! ### Reception -/

theorem witness_FrameByteTaken :
    Receiving .u live ∧ (live.port .u).rx.state = .idle ∧
    (let s := receiving .u { state := .header, count := 2, header := [9, 0x20] } live
     Receiving .u s ∧ (s.port .u).rx.state = .header ∧ (s.port .u).rx.count < 3) ∧
    (let s := receiving .d { state := .body, count := 4, header := [9, 0x20, 0x10, 1], route := some .back } live
     Receiving .d s ∧ (s.port .d).rx.state = .body ∧ 4 ≤ (s.port .d).rx.count) ∧
    (let s := receiving .d skipping live
     Receiving .d s ∧ (s.port .d).rx.state = .skip) := by
  unfold Receiving; decide

/-- The part with entry 0 written and all buffers but the top `n` taken. -/
def scarce (n : Nat) : State :=
  { holding0 [] with
    pool := Vector.ofFn fun b => if b.val < 64 - n then { state := .queued, bytes := dataFrame } else {} }

theorem scarce_tags (n : Nat) (p : Port) (rx : Receiver) : TagsDistinct (receiving p rx (scarce n)) := by
  have h : ∀ i : StreamId, ((receiving p rx (scarce n)).stream i).valid = true → i = 0 := by
    intro i
    have : (receiving p rx (scarce n)).stream i = (holding0 []).stream i := by cases p <;> rfl
    rw [this]
    clear this
    revert i
    decide
  intro i j hi hj _
  rw [h i hi, h j hj]

theorem witness_HeaderRouted_noBuffer :
    let s := receiving .u (atHeader 5 0x60 1) (scarce 4)
    Receiving .u s ∧ (s.port .u).rx.state = .header ∧ (s.port .u).rx.count = 3 ∧
      (s.port .u).rx.header = [5, 0x60, 1] ∧ ¬ BadHeader 5 0x60 1 2 ∧ TagsDistinct s ∧
      RoutedTo .u s ((0x60 : Byte).toNat / 32) (5 : Byte).toNat ((0x60 : Byte).toNat % 4 * 256 + (1 : Byte).toNat) .mgmt ∧
      Route.mgmt.needsBuffer = false := by
  refine ⟨by unfold Receiving; decide, by decide, by decide, by decide, by unfold BadHeader; decide, scarce_tags _ _ _,
    ?_, rfl⟩
  exact .inr (.inr (.inr (.inl ⟨by decide, by unfold HasAddress; decide, by decide, rfl⟩)))

/-- Port U is granted a buffer at a free count of 5. -/
theorem witness_HeaderRouted_granted :
    let s := receiving .u (atHeader 9 0x20 0x10) (scarce 5)
    Receiving .u s ∧ (s.port .u).rx.state = .header ∧ (s.port .u).rx.count = 3 ∧
      (s.port .u).rx.header = [9, 0x20, 0x10] ∧ ¬ BadHeader 9 0x20 0x10 0 ∧ TagsDistinct s ∧
      RoutedTo .u s ((0x20 : Byte).toNat / 32) (9 : Byte).toNat
        ((0x20 : Byte).toNat % 4 * 256 + (0x10 : Byte).toNat) (.hold 0) ∧
      (Route.hold 0).needsBuffer = true ∧ Granted .u s := by
  refine ⟨by unfold Receiving; decide, by decide, by decide, by decide, by unfold BadHeader; decide, scarce_tags _ _ _,
    ?_, rfl, by unfold Granted; decide⟩
  exact .inl ⟨by decide, 0, by decide, by decide, rfl⟩

/-- Port U is refused at a free count of 4, port D at 0. -/
theorem witness_HeaderRouted_refused :
    (let s := receiving .u (atHeader 127 0x60 1) (scarce 4)
     Receiving .u s ∧ (s.port .u).rx.state = .header ∧ (s.port .u).rx.count = 3 ∧
       (s.port .u).rx.header = [127, 0x60, 1] ∧ ¬ BadHeader 127 0x60 1 2 ∧ TagsDistinct s ∧
       RoutedTo .u s ((0x60 : Byte).toNat / 32) (127 : Byte).toNat
         ((0x60 : Byte).toNat % 4 * 256 + (1 : Byte).toNat) .broadcast ∧
       Route.broadcast.needsBuffer = true ∧ ¬ Granted .u s) ∧
    (let s := receiving .d (atHeader 0 0x80 1) (scarce 0)
     Receiving .d s ∧ (s.port .d).rx.state = .header ∧ (s.port .d).rx.count = 3 ∧
       (s.port .d).rx.header = [0, 0x80, 1] ∧ ¬ BadHeader 0 0x80 1 2 ∧ TagsDistinct s ∧
       RoutedTo .d s ((0x80 : Byte).toNat / 32) (0 : Byte).toNat
         ((0x80 : Byte).toNat % 4 * 256 + (1 : Byte).toNat) .back ∧
       Route.back.needsBuffer = true ∧ ¬ Granted .d s) := by
  refine ⟨⟨by unfold Receiving; decide, by decide, by decide, by decide, by unfold BadHeader; decide,
    scarce_tags _ _ _, ?_, rfl, by unfold Granted; decide⟩, ⟨by unfold Receiving; decide, by decide, by decide,
    by decide, by unfold BadHeader; decide, scarce_tags _ _ _, ?_, rfl, by unfold Granted; decide⟩⟩
  · exact .inr (.inr (.inr (.inr (.inl ⟨by decide, by unfold HasAddress; decide, by decide, rfl⟩))))
  · exact .inr ⟨by decide, rfl⟩

theorem witness_BadFrameCounted_header :
    let s := receiving .u (atHeader 127 0x40 0) live
    Receiving .u s ∧ (s.port .u).rx.state = .header ∧ (s.port .u).rx.count = 3 ∧
      (s.port .u).rx.header = [127, 0x40, 0] ∧ BadHeader 127 0x40 0 5 := by
  unfold Receiving BadHeader; decide

theorem witness_BadFrameCounted_early :
    Receiving .u live ∧ (live.port .u).rx.state = .idle ∧ (receiving .u (atHeader 9 0x20 0) live).portU.rx.state = .header ∧
      (receiving .u skipping live).portU.rx.state = .skip := by
  unfold Receiving; decide

theorem witness_BadFrameCounted_body :
    (let s := receiving .u { atEnd [9, 0x20, 0x10, 0] .pass (some 0) with count := 4 } live
     Receiving .u s ∧ (s.port .u).rx.state = .body ∧ 4 ≤ (s.port .u).rx.count ∧
       (s.port .u).rx.count + 1 ≠ 6 + lenOf (s.port .u).rx.header) ∧
    (let s := receiving .u (atEnd [9, 0x20, 0x10, 0] .pass (some 0)) live
     Receiving .u s ∧ (s.port .u).rx.state = .body ∧ (s.port .u).rx.count + 1 = 6 + lenOf (s.port .u).rx.header ∧
       ((s.port .u).rx.check <<< 8) ||| (0x35 : Byte).zeroExtend 16 ≠ (s.port .u).rx.crc) := by
  unfold Receiving; decide

/-- The last byte of a frame prepared by `atEnd` ends it well. -/
theorem goodEnd_atEnd (header : FrameBytes) (route : Route) (buffer : Option BufId) (s : State) (p : Port)
    (hs : s.power = .running) (hl : header.length = 4) : GoodEnd p (receiving p (atEnd header route buffer) s) 0x34 := by
  have hp : ((receiving p (atEnd header route buffer) s).port p) = { link := .up, rx := atEnd header route buffer } := by
    cases p <;> rfl
  refine ⟨⟨?_, by rw [hp]⟩, by rw [hp]; rfl, by rw [hp]; simp only [atEnd]; omega, by rw [hp]; exact (by decide : (0x12 : BitVec 16) <<< 8 ||| (0x34 : Byte).zeroExtend 16 = 0x1234), by rw [hp]; exact hl⟩
  cases p <;> exact hs

theorem witness_GoodFrameForwarded :
    (let s := receiving .u (atEnd [0, 0xA0, 1, 0] .misdirected none) live
     GoodEnd .u s 0x34 ∧ (s.port .u).rx.route = some .misdirected ∧ (s.port .u).rx.buffer = none) ∧
    (let s := receiving .u (atEnd [9, 0x20, 1, 0] .drop none) live
     GoodEnd .u s 0x34 ∧ (s.port .u).rx.route = some .drop ∧ (s.port .u).rx.buffer = none) ∧
    (let s := receiving .u (atEnd [9, 0x20, 1, 0] .pass (some 0)) live
     GoodEnd .u s 0x34 ∧ (s.port .u).rx.route = some .pass ∧ (s.port .u).rx.buffer = some 0) ∧
    (let s := receiving .d (atEnd [0, 0x80, 1, 0] .back (some 1)) live
     GoodEnd .d s 0x34 ∧ (s.port .d).rx.route = some .back ∧ (s.port .d).rx.buffer = some 1) :=
  ⟨⟨goodEnd_atEnd _ _ _ _ _ rfl rfl, rfl, rfl⟩, ⟨goodEnd_atEnd _ _ _ _ _ rfl rfl, rfl, rfl⟩,
   ⟨goodEnd_atEnd _ _ _ _ _ rfl rfl, rfl, rfl⟩, ⟨goodEnd_atEnd _ _ _ _ _ rfl rfl, rfl, rfl⟩⟩

/-- The premises at a full and at an empty queue, and at an entry that no longer matches. -/
theorem witness_MatchedFrameAdmitted :
    (let s := receiving .u (atEnd [9, 0x20, 0x10, 0] (.hold 0) (some 7)) (holding0 [1, 1])
     GoodEnd .u s 0x34 ∧ (s.port .u).rx.route = some (.hold 0) ∧ (s.port .u).rx.buffer = some 7 ∧
       (∀ h ∈ (s.stream 0).queue, h.buffer ≠ 7) ∧ (s.stream 0).valid = true ∧
       (s.stream 0).tag = tagOf (s.port .u).rx.header) ∧
    (let s := receiving .u (atEnd [9, 0x20, 0x11, 0] (.hold 0) (some 7)) (holding0 [])
     GoodEnd .u s 0x34 ∧ (s.port .u).rx.route = some (.hold 0) ∧ (s.port .u).rx.buffer = some 7 ∧
       (∀ h ∈ (s.stream 0).queue, h.buffer ≠ 7) ∧ (s.stream 0).tag ≠ tagOf (s.port .u).rx.header) :=
  ⟨⟨goodEnd_atEnd _ _ _ _ _ rfl rfl, by decide, by decide, by decide, by decide, by decide⟩,
   ⟨goodEnd_atEnd _ _ _ _ _ rfl rfl, by decide, by decide, by decide, by decide⟩⟩

theorem witness_MarkCaptured :
    let s := receiving .u (atEnd [127, 0x40, 0, 4] .mark none)
      { live with markArea := [127, 0x40, 0, 4, 0, 0, 0xEF, 0x10, 0] }
    GoodEnd .u s 0x34 ∧ (s.port .u).rx.route = some .mark ∧ (s.port .u).rx.buffer = none ∧
      (s.port .u).rx.header = [127, 0x40, 0, 4] ∧ s.markArea = [127, 0x40, 0, 4, 0, 0, 0xEF, 0x10, 0] :=
  ⟨goodEnd_atEnd _ _ _ _ _ rfl rfl, rfl, rfl, rfl, rfl⟩

theorem witness_RequestQueued :
    (let s := receiving .u (atEnd [5, 0x60, 1, 1] .mgmt none) live
     GoodEnd .u s 0x34 ∧ (s.port .u).rx.route = some .mgmt ∧ (s.port .u).rx.buffer = none) ∧
    (let s := receiving .u (atEnd [127, 0x60, 1, 1] .broadcast none) live
     GoodEnd .u s 0x34 ∧ (s.port .u).rx.route = some .broadcast ∧ (s.port .u).rx.buffer = none) ∧
    (let s := receiving .u (atEnd [127, 0x60, 1, 1] .broadcast (some 3)) live
     GoodEnd .u s 0x34 ∧ (s.port .u).rx.route = some .broadcast ∧ (s.port .u).rx.buffer = some 3) :=
  ⟨⟨goodEnd_atEnd _ _ _ _ _ rfl rfl, rfl, rfl⟩, ⟨goodEnd_atEnd _ _ _ _ _ rfl rfl, rfl, rfl⟩,
   ⟨goodEnd_atEnd _ _ _ _ _ rfl rfl, rfl, rfl⟩⟩

/-! ### Transmitters and notes -/

/-- A reply waiting in the outbox. -/
def waitingReply : Reply := { bytes := [0, 0x80, 1, 0, 0, 0], ofRestart := false }

theorem witness_ArbiterUAlternates :
    (noted 1 0).txU ≠ none ∧ State.reset.portU.link = .down ∧
    (let s : State := { live with stores := { live.stores with back := [2] } }
     s.txU = none ∧ s.portU.link = .up ∧ s.stores.back = 2 :: [] ∧ s.stores.lastSource = .part) ∧
    (let s : State := { live with stores := { live.stores with back := [2], lastSource := .back } }
     s.txU = none ∧ s.portU.link = .up ∧ s.stores.back = 2 :: [] ∧ s.mgmt.outbox = [] ∧ noteOffered s.notes = none) ∧
    (let s : State := { live with stores := { live.stores with back := [2], lastSource := .back }
                                  mgmt := { live.mgmt with outbox := [waitingReply] } }
     s.txU = none ∧ s.portU.link = .up ∧ s.stores.lastSource = .back ∧ s.mgmt.outbox = waitingReply :: []) ∧
    (let s : State := { live with notes := { live.notes with queue := [newRecord .holdExpired 0] } }
     s.txU = none ∧ s.portU.link = .up ∧ s.stores.back = [] ∧ s.mgmt.outbox = [] ∧
       s.notes.queue = newRecord .holdExpired 0 :: [] ∧ (newRecord .holdExpired 0).state = .waiting) ∧
    (live.txU = none ∧ live.portU.link = .up ∧ live.stores.back = [] ∧ live.mgmt.outbox = [] ∧
      noteOffered live.notes = none) := by
  decide

theorem witness_ArbiterDPriority :
    ({ live with txD := some { source := .mark, bytes := [], remaining := 1 } } : State).txD ≠ none ∧
    State.reset.portD.link = .down ∧
    (let s : State := { live with stores := { live.stores with mark := some [127] } }
     s.txD = none ∧ s.portD.link = .up ∧ s.stores.mark = some [127]) ∧
    (let u := windowed 3000 (holding0 [0])
     let s : State := { u with engine := { u.engine with request := true } }
     s.txD = none ∧ s.portD.link = .up ∧ s.stores.mark = none ∧ s.engine.request = true ∧
       s.engine.window = some window0 ∧ (s.stream window0.stream).queue = held 0 0 :: []) ∧
    (let s : State := { live with stores := { live.stores with pass := [3] } }
     s.txD = none ∧ s.portD.link = .up ∧ s.stores.mark = none ∧ s.engine.request = false ∧ s.stores.pass = 3 :: []) ∧
    (live.txD = none ∧ live.portD.link = .up ∧ live.stores.mark = none ∧ live.engine.request = false ∧
      live.stores.pass = []) := by
  decide

/-- The slots of section 10.1 keep the ordering law. -/
theorem planOrdered_slots : PlanOrdered [slot0, slot1] := by
  refine ⟨by decide, ?_, by decide⟩
  intro x hx
  simp only [List.mem_cons, List.not_mem_nil, or_false] at hx
  rcases hx with rfl | rfl <;> constructor <;> decide

/-- Section 10.3: a frame of LEN 64 starts only at an offset at or below 2,696 before OPEN 3,000. -/
theorem test_guard_2696 :
    guardAllows (planned 2696 live) 64 = true ∧ guardAllows (planned 2697 live) 64 = false := by decide

theorem witness_GuardProtectsNextOpen :
    PlanOrdered ((planned 2696 live).plan.active.map ActiveSlot.slot) ∧
    (planned 2696 live).timer.offset < (planned 2696 live).timer.cl ∧ gateOpen (planned 2696 live) = true ∧
    (∀ w, (planned 2696 live).engine.window = some w → w.phase = .done) ∧
    (∃ a, a ∈ (planned 2696 live).plan.active.drop (planned 2696 live).engine.nextSlot ∧
      a.slot.openAt < (planned 2696 live).timer.cl ∧ eligibleIn (planned 2696 live).timer.cycle a) ∧
    (let s : State := { planned 40000 live with engine := { nextSlot := 2 } }
     gateOpen s = true ∧ (∀ w, s.engine.window = some w → w.phase = .done) ∧
       ¬ ∃ a, a ∈ s.plan.active.drop s.engine.nextSlot ∧ a.slot.openAt < s.timer.cl ∧ eligibleIn s.timer.cycle a) ∧
    (∃ w, (windowed 3100 live).engine.window = some w ∧ w.phase = .opened) ∧
    gateOpen { live with plan := { live.plan with mode := .held } } = false := by
  refine ⟨planOrdered_slots, by decide, by decide, by intro w h; exact absurd h (by decide +revert),
    ⟨{ slot := slot0 }, by decide, by decide, by unfold eligibleIn; decide⟩,
    ⟨by decide, by intro w h; exact absurd h (by decide +revert), by rintro ⟨a, h, _⟩; exact absurd h (by simp [planned])⟩,
    ⟨window0, by decide, by decide⟩, by decide⟩

theorem witness_CompletionOnPortD :
    let t : Transmission SourceD := { source := .release 3 (some 0), bytes := dataFrame, remaining := 0 }
    let s : State := { holding0 [] with txD := some t }
    s.power = .running ∧ s.txD = some t ∧ t.remaining = 0 := by decide

theorem witness_CompletionOnPortU :
    let t : Transmission SourceU := { source := .reply, bytes := waitingReply.bytes, remaining := 0 }
    let s : State := { live with txU := some t, mgmt := { live.mgmt with outbox := [waitingReply] } }
    s.power = .running ∧ s.txU = some t ∧ t.remaining = 0 ∧
      (t.source = .reply → ∃ r q, s.mgmt.outbox = r :: q ∧ r.ofRestart = false) :=
  ⟨rfl, rfl, rfl, fun _ => ⟨waitingReply, [], rfl, rfl⟩⟩

theorem witness_RestartTakesEffect :
    let t : Transmission SourceU := { source := .reply, bytes := [], remaining := 0 }
    let r : Reply := { bytes := [], ofRestart := true }
    let s : State := { live with txU := some t, mgmt := { live.mgmt with mode := .restarting, outbox := [r] } }
    s.power = .running ∧ s.txU = some t ∧ t.remaining = 0 ∧ t.source = .reply ∧ s.mgmt.outbox = r :: [] ∧
      r.ofRestart = true := by decide

/-- A completion on each port that ends with the tick that is the wrap, and both in progress over it. -/
theorem witness_CompletionWithTheWrap :
    let d : Transmission SourceD := { source := .mark, bytes := [], remaining := 1 }
    let n : Transmission SourceU := { source := .note, bytes := [], remaining := 1 }
    let s : State := { lastTick live with txD := some d, txU := some n }
    let u := ran .tick s
    s.power = .running ∧ s.timer.wrapping = false ∧ s.timer.offset + 1 = s.timer.cl ∧ exec .tick s = .next u ∧
      u.timer.wrapping = true ∧ s.txD = some d ∧ d.remaining = 1 ∧ s.txU = some n ∧ n.remaining = 1 ∧
      WrapAct.unit ∉ ([] : List WrapAct) ∧ (∃ v, exec (.wrap []) u = .next v) ∧ u.txU ≠ none ∧ u.txD ≠ none :=
  ⟨rfl, rfl, by decide, rfl, by decide, rfl, rfl, rfl, rfl, by decide, exec_next _ _, by decide, by decide⟩

theorem witness_OccurrenceRecorded :
    ¬ HasAddress { live with nodeAddr := 0 } ∧
    ((Occurrence.poolExhausted).kind ≤ 12 ∧
      (0xFEF : BitVec 12).getLsbD ((Occurrence.poolExhausted).kind - 1) = false) ∧
    HasAddress live ∧ live.notes.mask.getLsbD ((Occurrence.poolExhausted).kind - 1) = true ∧
    (let n := newRecord .poolExhausted 0
     [newRecord .holdExpired 0, n] = [newRecord .holdExpired 0] ++ n :: [] ∧
       (Occurrence.poolExhausted).kind ∈ [1, 2, 3, 4, 5, 8, 10, 12] ∧ n.attempts = 0 ∧
       n.occ.kind = (Occurrence.poolExhausted).kind ∧ n.occ.stream = (Occurrence.poolExhausted).stream ∧
       (newRecord .holdExpired 0).occ.kind ≠ (Occurrence.poolExhausted).kind) ∧
    (List.replicate 15 (newRecord .holdExpired 0)).length < 16 ∧
    16 ≤ (List.replicate 16 (newRecord .holdExpired 0)).length := by
  unfold HasAddress; decide

/-! ### The clock and the wrap -/

/-- A live part at an offset at which nothing is due. -/
theorem quiet_of (s : State) (hp : s.power = .running) (hn : s.timer.wrapping = false) (hu : s.txU = none)
    (hd : s.txD = none) (hw : closeDue s = false) (ht : takeDue s = false) (hc : s.cyc = false) : Quiet s := by
  refine ⟨hp, hn, by simp [hu], by simp [hd], ?_, ?_, by simp [hc]⟩
  · intro w h
    simpa [closeDue, h] using hw
  · intro a h
    simpa [takeDue, nextSlot?, h] using ht

/-- A quiet tick, one at the last offset, one after it, CYC at 32, and each thing that a tick takes first. -/
theorem witness_TickAdvances :
    (let s : State := { live with timer := { offset := 49998 }, cyc := false }
     Quiet s ∧ Unasked s ∧ s.timer.offset + 1 < s.timer.cl) ∧
    (Quiet (lastTick live) ∧ Unasked (lastTick live) ∧ (lastTick live).timer.offset + 1 = (lastTick live).timer.cl) ∧
    ((ran .tick (lastTick live)).power = .running ∧ (ran .tick (lastTick live)).timer.wrapping = true) ∧
    (let s : State := { live with timer := { offset := 32 } }
     s.power = .running ∧ s.timer.offset = 32 ∧ Quiet { s with cyc := false } ∧ ∃ u, exec .cycFall s = .next u) ∧
    (∃ u, exec (.transmissionComplete .d) { live with txD := some { source := .mark, bytes := [], remaining := 0 } } = .next u) ∧
    (∃ u, exec (.transmissionComplete .u) { live with txU := some { source := .note, bytes := [], remaining := 0 } } = .next u) ∧
    (PlanOrdered ((windowed 3600 live).plan.active.map ActiveSlot.slot) ∧ (windowed 3600 live).engine.window = some window0 ∧
      window0.closeAt = (windowed 3600 live).timer.offset) ∧
    (PlanOrdered ((planned 3000 live).plan.active.map ActiveSlot.slot) ∧
      (planned 3000 live).plan.active[(planned 3000 live).engine.nextSlot]? = some { slot := slot0 } ∧
      slot0.openAt = (planned 3000 live).timer.offset) ∧
    (let s := asked (ask 0x01 []) { live with cyc := false }
     Quiet s ∧ Takes s (ask 0x01 []) [] ∧ .ident ∈ requestSteps ∧ exec .ident s = .next (ran .ident s) ∧
       (ran .ident s).mgmt.input = []) :=
  ⟨⟨quiet_of _ rfl rfl rfl rfl (by decide) (by decide) rfl, fun _ => rfl, by decide⟩,
    ⟨quiet_of _ rfl rfl rfl rfl (by decide) (by decide) rfl, fun _ => rfl, by decide⟩, by decide,
    ⟨rfl, rfl, quiet_of _ rfl rfl rfl rfl (by decide) (by decide) rfl, exec_next _ _⟩, exec_next _ _, exec_next _ _,
    ⟨planOrdered_slots, by decide, by decide⟩, ⟨planOrdered_slots, by decide, by decide⟩,
    ⟨quiet_of _ rfl rfl rfl rfl (by decide) (by decide) rfl, ⟨rfl, rfl, rfl, by decide, rfl⟩, by decide, rfl, by decide⟩⟩

theorem witness_SlotTakenAtOpen :
    let s := planned 3000 (holding0 [1])
    s.power = .running ∧ s.plan.active[s.engine.nextSlot]? = some { slot := slot0 } ∧
      slot0.openAt = s.timer.offset ∧ s.engine.window = none := by decide

/-- A close alone, and a close where the next slot abuts. -/
theorem witness_WindowClosesAtClose :
    (let s := windowed 3600 (holding0 [0])
     s.power = .running ∧ s.engine.window = some window0 ∧ window0.closeAt = s.timer.offset ∧
       s.plan.active[s.engine.nextSlot]? = some { slot := slot1 } ∧ slot1.openAt ≠ s.timer.offset) ∧
    (let a : ActiveSlot := { slot := { slot1 with openAt := 3600 } }
     let u := windowed 3600 (holding0 [0])
     let s : State := { u with plan := { u.plan with active := [{ slot := slot0 }, a] } }
     s.power = .running ∧ s.engine.window = some window0 ∧ window0.closeAt = s.timer.offset ∧
       (windowClosed s).plan.active[s.engine.nextSlot]? = some a ∧ a.slot.openAt = s.timer.offset) := by decide

/-- Every state one tick before the wrap with nothing else due is at the wrap. -/
theorem atWrap_lastTick (s : State) (hp : s.power = .running) (hu : s.txU = none) (hd : s.txD = none)
    (hw : closeDue (lastTick s) = false) (ht : takeDue (lastTick s) = false) (hl : 1 ≤ s.timer.cl)
    (hi : s.mgmt.input = []) (order : List WrapAct) : AtWrap (lastTick s) order :=
  ⟨hp, by simp only [lastTick]; omega, fun h => quiet_of _ hp h hu hd hw ht rfl, .inr fun _ => hi⟩

theorem witness_DeviationReduced : 0 < (ending1 3 50000 .acquire {} (some (13345, 61200))).timer.cl := by decide

/-- A window that stands; a slot at OPEN 0 that opens, that a hold expiry bars, and that is not eligible; and a request
that the order puts after the wrap. -/
theorem witness_WrapBeginsCycle :
    (AtWrap (lastTick (windowed 3100 live)) [] ∧ (lastTick (windowed 3100 live)).engine.window ≠ none ∧
      NoneAtZero (ran (.wrap []) (lastTick (windowed 3100 live)))) ∧
    (let s := zeroPlanned live
     let t := ran (.wrap []) s
     let a : ActiveSlot := { slot := { slot0 with openAt := 0 } }
     AtWrap s [] ∧ t.plan.active.head? = some a ∧ eligibleIn t.timer.cycle a ∧ gateOpen t = true ∧
       t.engine.resumeOffset = none) ∧
    (let s := zeroPlanned { live with plan := { live.plan with mode := .held, holdLimit := 4, holdCount := 3 } }
     AtWrap s [] ∧ (ran (.wrap []) s).engine.resumeOffset = some 0) ∧
    ¬ eligibleIn 1 { slot := { slot0 with openAt := 0, every := 2 } } ∧
    AtWrap (asked (ask 0x0F [4]) (lastTick live)) [.unit] ∧
    (let u := ran .tick { lastTick live with txD := some { source := .mark, bytes := [], remaining := 1 } }
     AtWrap u [] ∧ u.timer.wrapping = true ∧ u.txD ≠ none) := by
  have z : ∀ s : State, s.power = .running → s.txU = none → s.txD = none → s.engine.window = none →
      1 ≤ s.timer.cl → s.mgmt.input = [] → AtWrap (zeroPlanned s) [] := by
    intro s hp hu hd hw hl hi
    exact atWrap_lastTick (fromZero s) hp hu hd (by simp [closeDue, lastTick, fromZero, hw]) rfl hl hi _
  refine ⟨⟨atWrap_lastTick _ rfl rfl rfl (by decide) (by decide) (by decide) rfl _, by decide, ?_⟩,
    ⟨z _ rfl rfl rfl rfl (by decide) rfl, by decide, ⟨by decide, by decide⟩, by decide, by decide⟩,
    ⟨z _ rfl rfl rfl rfl (by decide) rfl, by decide⟩, fun h => absurd h.1 (by decide),
    ⟨rfl, by decide, fun _ => quiet_of _ rfl rfl rfl rfl (by decide) (by decide) rfl, .inl (by decide)⟩,
    ⟨by decide, by decide, fun h => absurd h (by decide), .inr fun _ => by decide⟩, by decide, by decide⟩
  have h : (ran (.wrap []) (lastTick (windowed 3100 live))).plan.active.head? = some { slot := slot0 } := by decide
  intro a ha
  rw [h] at ha
  cases ha
  decide

theorem witness_FreeMakesNoAdjustment : AtWrap (lastTick live) [] ∧ (lastTick live).sync.mode = .free :=
  ⟨atWrap_lastTick _ rfl rfl rfl (by decide) (by decide) (by decide) rfl _, rfl⟩

theorem ending1_atWrap (n : Cycle) (cl : Nat) (m : SyncMode) (k : SyncCounts) (c : Option (Nat × Cycle)) (h : 1 ≤ cl) :
    AtWrap (ending1 n cl m k c) [] :=
  atWrap_lastTick _ rfl rfl rfl rfl rfl h rfl _

/-- The captures of section 10.4: good at a good count of 2 and 3, and one to be stepped; and an empty record. -/
theorem witness_AcquireWrapEvaluates :
    (let s := ending1 61203 50003 .acquire { good := 2 } (some (1006, 61203))
     let c : Capture := { offset := 1006, localCycle := 61203, markNumber := 61203, double := false }
     AtWrap s [] ∧ s.sync.mode = .acquire ∧ s.sync.capture = some c ∧ IsDeviation s c 3 ∧ GoodCapture s c 3 ∧
       s.sync.counts.good < 3) ∧
    (let s := ending1 61204 50003 .acquire { good := 3 } (some (1006, 61204))
     let c : Capture := { offset := 1006, localCycle := 61204, markNumber := 61204, double := false }
     AtWrap s [] ∧ s.sync.mode = .acquire ∧ s.sync.capture = some c ∧ IsDeviation s c 3 ∧ GoodCapture s c 3 ∧
       3 ≤ s.sync.counts.good) ∧
    (let s := ending1 3 50000 .acquire {} (some (13345, 61200))
     let c : Capture := { offset := 13345, localCycle := 3, markNumber := 61200, double := false }
     AtWrap s [] ∧ s.sync.mode = .acquire ∧ s.sync.capture = some c ∧ IsDeviation s c 12345 ∧ ¬ GoodCapture s c 12345) ∧
    (let s := ending1 3 50000 .acquire {} none
     AtWrap s [] ∧ s.sync.mode = .acquire ∧ s.sync.capture = none) := by
  refine ⟨⟨ending1_atWrap _ _ _ _ _ (by decide), rfl, rfl, ⟨by decide, by decide, 0, by decide⟩, ?_, by decide⟩,
    ⟨ending1_atWrap _ _ _ _ _ (by decide), rfl, rfl, ⟨by decide, by decide, 0, by decide⟩, ?_, by decide⟩,
    ⟨ending1_atWrap _ _ _ _ _ (by decide), rfl, rfl, ⟨by decide, by decide, 0, by decide⟩, ?_⟩,
    ⟨ending1_atWrap _ _ _ _ _ (by decide), rfl, rfl⟩⟩ <;> unfold GoodCapture <;> decide

/-- A good capture, a first and a second excursion at d 51 beyond LOCK_WINDOW 50, a mismatch, a miss and the third. -/
theorem witness_LockedWrapEvaluates :
    (let s := ending1 9 50000 .locked { good := 4 } (some (1050, 9))
     let c : Capture := { offset := 1050, localCycle := 9, markNumber := 9, double := false }
     AtWrap s [] ∧ s.sync.mode = .locked ∧ s.sync.capture = some c ∧ IsDeviation s c 50 ∧ GoodCapture s c 50) ∧
    (let s := ending1 9 50000 .locked { good := 4 } (some (1051, 9))
     let c : Capture := { offset := 1051, localCycle := 9, markNumber := 9, double := false }
     AtWrap s [] ∧ s.sync.capture = some c ∧ IsDeviation s c 51 ∧ c.markNumber = s.timer.cycle ∧
       ¬ GoodCapture s c 51 ∧ s.sync.counts.excursion = 0) ∧
    (let s := ending1 9 50000 .locked { good := 4, excursion := 1 } (some (1051, 9))
     let c : Capture := { offset := 1051, localCycle := 9, markNumber := 9, double := false }
     AtWrap s [] ∧ s.sync.capture = some c ∧ IsDeviation s c 51 ∧ ¬ GoodCapture s c 51 ∧ s.sync.counts.excursion ≠ 0) ∧
    (let s := ending1 9 50000 .locked { good := 4 } (some (1000, 8))
     let c : Capture := { offset := 1000, localCycle := 9, markNumber := 8, double := false }
     AtWrap s [] ∧ s.sync.capture = some c ∧ IsDeviation s c 0 ∧ c.markNumber ≠ s.timer.cycle) ∧
    (let s := ending1 9 50000 .locked { good := 4, miss := 1 } none
     AtWrap s [] ∧ s.sync.capture = none ∧
       ¬ (s.sync.capture = none ∧ s.sync.settings.missLimit ≤ s.sync.counts.miss + 1)) ∧
    (let s := ending1 9 50000 .locked { good := 4, miss := 2 } none
     AtWrap s [] ∧ s.sync.mode = .locked ∧ s.sync.capture = none ∧
       s.sync.settings.missLimit ≤ s.sync.counts.miss + 1) := by
  refine ⟨⟨ending1_atWrap _ _ _ _ _ (by decide), rfl, rfl, ⟨by decide, by decide, 0, by decide⟩, ?_⟩,
    ⟨ending1_atWrap _ _ _ _ _ (by decide), rfl, ⟨by decide, by decide, 0, by decide⟩, rfl, ?_, rfl⟩,
    ⟨ending1_atWrap _ _ _ _ _ (by decide), rfl, ⟨by decide, by decide, 0, by decide⟩, ?_, by decide⟩,
    ⟨ending1_atWrap _ _ _ _ _ (by decide), rfl, ⟨by decide, by decide, 0, by decide⟩, by decide⟩,
    ⟨ending1_atWrap _ _ _ _ _ (by decide), rfl, by decide⟩,
    ⟨ending1_atWrap _ _ _ _ _ (by decide), rfl, rfl, by decide⟩⟩ <;> unfold GoodCapture <;> decide

theorem witness_HoldoverWrapEvaluates :
    (let s := ending1 9 50000 .holdover { good := 4, miss := 3 } (some (990, 9))
     let c : Capture := { offset := 990, localCycle := 9, markNumber := 9, double := false }
     AtWrap s [] ∧ s.sync.mode = .holdover ∧ s.sync.capture = some c ∧ IsDeviation s c (-10) ∧ GoodCapture s c (-10)) ∧
    (let s := ending1 9 50000 .holdover { good := 4, miss := 3 } (some (2000, 9))
     let c : Capture := { offset := 2000, localCycle := 9, markNumber := 9, double := false }
     AtWrap s [] ∧ s.sync.capture = some c ∧ IsDeviation s c 1000 ∧ ¬ GoodCapture s c 1000) ∧
    (let s := ending1 9 50000 .holdover { good := 4, miss := 3, holdover := 62 } none
     AtWrap s [] ∧ s.sync.capture = none ∧
       ¬ (s.sync.capture = none ∧ s.sync.settings.holdoverLimit ≤ s.sync.counts.holdover + 1)) ∧
    (let s := ending1 9 50000 .holdover { good := 4, miss := 3, holdover := 63 } none
     AtWrap s [] ∧ s.sync.mode = .holdover ∧ s.sync.capture = none ∧
       s.sync.settings.holdoverLimit ≤ s.sync.counts.holdover + 1) := by
  refine ⟨⟨ending1_atWrap _ _ _ _ _ (by decide), rfl, rfl, ⟨by decide, by decide, 0, by decide⟩, ?_⟩,
    ⟨ending1_atWrap _ _ _ _ _ (by decide), rfl, ⟨by decide, by decide, 0, by decide⟩, ?_⟩,
    ⟨ending1_atWrap _ _ _ _ _ (by decide), rfl, by decide⟩,
    ⟨ending1_atWrap _ _ _ _ _ (by decide), rfl, rfl, by decide⟩⟩ <;> unfold GoodCapture <;> decide

theorem witness_SyncChangeReportedAtWrap :
    let s := ending1 61204 50003 .acquire { good := 3 } (some (1006, 61204))
    AtWrap s [] ∧ HasAddress s ∧ s.notes.mask.getLsbD 5 = true ∧ s.notes.queue.length < 16 ∧
      (ran (.wrap []) s).sync.mode ≠ s.sync.mode :=
  ⟨ending1_atWrap _ _ _ _ _ (by decide), by unfold HasAddress; decide, by decide, by decide, by decide⟩

/-- Every stream entry of a live part with entry 0 written keeps the ranges of R36. -/
theorem holding0_bounded (ages : List Nat) (h : ages.length ≤ 2) (s : State) (hs : s.streams = (holding0 ages).streams) :
    StreamsBounded s := by
  intro i
  have hst : s.stream i = (setStream 0 { entry0 with queue := ages.mapIdx fun k a => held (Fin.ofNat 64 k) a } live).stream i := by
    simp only [State.stream, hs]; rfl
  rw [hst, setStream_stream]
  by_cases hi : (0 : StreamId) = i
  · rw [if_pos hi]
    exact ⟨(by decide : 1 ≤ 2), (by decide : 2 ≤ 4), (by decide : 2 ≤ 15), by simpa [entry0] using h, by simp [entry0]⟩
  · rw [if_neg hi]
    have hd : live.stream i = {} := by simp [State.stream, live, State.reset]
    rw [hd]
    exact ⟨by decide, by decide, by decide, by decide, by decide⟩

/-- The pool of a live part that holds two frames is owned as R19 says. -/
theorem poolLaws_holding0 : PoolLaws (lastTick (holding0 [2, 1])) := by
  refine ⟨holding0_bounded [2, 1] (by decide) _ rfl, fun _ => ⟨⟨by decide, by decide, by decide, by decide, by decide⟩,
    ?_, ?_⟩⟩ <;> intro h <;> exact absurd h (by decide)

theorem witness_WrapAgesHeldFrames :
    let s := lastTick (holding0 [2, 1])
    AtWrap s [] ∧ PoolLaws s ∧ (s.stream 0).valid = true ∧
      (∃ r ∈ (s.stream 0).queue, stays (s.stream 0).ageLimit (older r) = false) ∧
      (∃ r ∈ (s.stream 0).queue, stays (s.stream 0).ageLimit (older r) = true) :=
  ⟨atWrap_lastTick _ rfl rfl rfl (by decide) (by decide) (by decide) rfl _, poolLaws_holding0, by decide, by decide, by decide⟩

theorem witness_PlanActsAtWrap :
    (let s := lastTick { live with plan := { live.plan with mode := .heldPending, target := .next, holdLimit := 4, holdCount := 3 } }
     AtWrap s [] ∧ ExpiresNext s) ∧
    (let s := lastTick { live with plan := { live.plan with mode := .pending, target := .atCycle 1 } }
     AtWrap s [] ∧ ¬ ExpiresNext s ∧ switchesInto s (ran (.wrap []) s).timer.cycle = true) ∧
    (let s := lastTick { live with plan := { live.plan with mode := .pending, target := .atCycle 2 } }
     AtWrap s [] ∧ ¬ ExpiresNext s ∧ switchesInto s (ran (.wrap []) s).timer.cycle = false) := by
  refine ⟨⟨atWrap_lastTick _ rfl rfl rfl (by decide) (by decide) (by decide) rfl _, ?_⟩,
    ⟨atWrap_lastTick _ rfl rfl rfl (by decide) (by decide) (by decide) rfl _, ?_, by decide⟩,
    ⟨atWrap_lastTick _ rfl rfl rfl (by decide) (by decide) (by decide) rfl _, ?_, by decide⟩⟩ <;>
    unfold ExpiresNext <;> decide

theorem witness_WindowEndsAtWrap :
    let s := lastTick (windowed 3100 (holding0 [2, 1]))
    AtWrap s [] ∧ s.engine.window = some window0 ∧ gateOpen s = true :=
  ⟨atWrap_lastTick _ rfl rfl rfl (by decide) (by decide) (by decide) rfl _, rfl, by decide⟩

/-- A queue of one note awaiting its acknowledgement keeps the laws of R148 and R149. -/
theorem notesOrdered_awaiting (attempts wait : Nat) (h1 : 1 ≤ attempts) (h3 : attempts ≤ 3) :
    NotesOrdered { live.notes with queue := [awaiting attempts wait] } := by
  refine ⟨by simp, ?_, ?_, by simp [awaiting]⟩
  · intro r hr
    cases hr
    exact .inr ⟨h1, h3, rfl⟩
  · intro r hr hw
    cases hr
    cases hw

theorem witness_NoteWaitsAtWrap :
    ∀ x ∈ [(1, 0), (2, 3), (3, 3)],
      let s := lastTick { live with notes := { live.notes with queue := [awaiting x.1 x.2] } }
      AtWrap s [] ∧ NotesOrdered s.notes ∧ s.notes.queue = awaiting x.1 x.2 :: [] ∧ (awaiting x.1 x.2).state = .awaitingAck ∧
        (x.2 + 1 < s.notes.retry ∨ s.notes.retry ≤ x.2 + 1 ∧ (x.1 < 3 ∨ 3 ≤ x.1)) := by
  intro x hx
  refine ⟨atWrap_lastTick _ rfl rfl rfl rfl rfl (by decide : 1 ≤ 50000) rfl _, notesOrdered_awaiting _ _ ?_ ?_, rfl, rfl, ?_⟩ <;>
    (revert x; decide)

/-! ### Requests -/

theorem payload_ask (op : Byte) (args : List Byte) (h : args.length < 64) : payloadOf (ask op args) = op :: args ∧
    lenOf (ask op args) = args.length + 1 := by
  have hl : lenOf (ask op args) = args.length + 1 := by
    simp [lenOf, byteAt, ask]; omega
  refine ⟨?_, hl⟩
  unfold payloadOf
  rw [hl]
  simp [ask]

theorem payload_call (op : Byte) (args : List Byte) (h : args.length < 64) : payloadOf (call op args) = op :: args ∧
    lenOf (call op args) = args.length + 1 := by
  have hl : lenOf (call op args) = args.length + 1 := by
    simp [lenOf, byteAt, call]; omega
  refine ⟨?_, hl⟩
  unfold payloadOf
  rw [hl]
  simp [call]

/-- Any request may be the one the live part takes next. This meets the premises of the statements on requests:
StreamReadAndSlotReadAnswer, CountReadSnapshots, StreamWriteConfigures, StreamDeleteLockPurge, SwitchAndWithdraw,
HoldAndResume, NoteConfigAndPassConfig, RestartAccepted, and those of the statements with a witness of their own. -/
theorem witness_requests (op : Byte) (args : List Byte) (h : args.length < 64) :
    Request (asked (ask op args) live) (ask op args) [] op args ∧ Addressed (asked (ask op args) live) (ask op args) := by
  obtain ⟨hp, hl⟩ := payload_ask op args h
  refine ⟨⟨⟨rfl, rfl, rfl, (by decide : 0 < 2), rfl⟩, hp, hl⟩, ⟨?_, ?_⟩⟩
  · simp [destOf, byteAt, ask]
  · intro e he; cases he

/-- And the same by broadcast, with the right LEN or a wrong one. -/
theorem witness_BroadcastExecutesFour (op : Byte) (args : List Byte) (h : args.length < 64) :
    Request (asked (call op args) live) (call op args) [] op args ∧ destOf (call op args) = 127 := by
  obtain ⟨hp, hl⟩ := payload_call op args h
  exact ⟨⟨⟨rfl, rfl, rfl, (by decide : 0 < 2), rfl⟩, hp, hl⟩, by simp [destOf, byteAt, call]⟩

theorem witness_IdentAndSyncReadAnswer :
    Request (asked (ask 0x01 []) live) (ask 0x01 []) [] 0x01 [] ∧ Request (asked (ask 0x12 []) live) (ask 0x12 []) [] 0x12 [] ∧
      Addressed (asked (ask 0x01 []) live) (ask 0x01 []) :=
  ⟨(witness_requests _ _ (by decide)).1, (witness_requests _ _ (by decide)).1, (witness_requests _ _ (by decide)).2⟩

theorem witness_TraceReadAnswersInParts :
    Request (asked (ask 0x13 [31, 8]) live) (ask 0x13 [31, 8]) [] 0x13 [31, 8] ∧
      (31 : Byte).toNat ≤ 31 ∧ 1 ≤ (8 : Byte).toNat ∧ (8 : Byte).toNat ≤ 8 ∧
      Request (asked (ask 0x13 [0, 0]) live) (ask 0x13 [0, 0]) [] 0x13 [0, 0] ∧ (0 : Byte).toNat < 1 :=
  ⟨(witness_requests _ _ (by decide)).1, by decide, by decide, by decide, (witness_requests _ _ (by decide)).1, by decide⟩

/-- SPAN 8 is in range and SPAN 7 is not, and an empty staged plan keeps the ordering law. -/
theorem witness_SlotAddPlaces :
    Request (asked (ask 0x07 [0, 0x1E, 0x84, 0x7F, 0, 8, 31, 4, 8, 7, 1]) live)
        (ask 0x07 [0, 0x1E, 0x84, 0x7F, 0, 8, 31, 4, 8, 7, 1]) [] 0x07 [0, 0x1E, 0x84, 0x7F, 0, 8, 31, 4, 8, 7, 1] ∧
      (word4 0 0x1E 0x84 0x7F ≤ 1999999 ∧ 8 ≤ word2 0 8 ∧ (31 : Byte).toNat < 32 ∧ 1 ≤ (4 : Byte).toNat ∧
        (4 : Byte).toNat ≤ 4 ∧ (8 : Byte).toNat ∈ [1, 2, 4, 8] ∧ (7 : Byte).toNat < (8 : Byte).toNat ∧
        (1 : Byte).toNat ≤ 1) ∧
      ¬ 8 ≤ word2 0 7 ∧ PlanOrdered live.plan.staged :=
  ⟨(witness_requests _ _ (by decide)).1, by decide, by decide, ⟨by decide, by simp [live, State.reset], by decide⟩⟩

theorem witness_StagedEditsApply : PlanOrdered ({ live with plan := { live.plan with staged := [slot0, slot1] } } : State).plan.staged :=
  planOrdered_slots

theorem witness_SyncConfigReplaces :
    ((1 : Byte).toNat ≤ 1 ∧ word4 0 0x1E 0x84 0x7F ≤ 1999999 ∧ 1 ≤ word2 0 1 ∧ word2 0x0F 0xFF ≤ 4095 ∧ 1 ≤ word2 0 20 ∧
      word2 0x03 0xFF ≤ 1023 ∧ 1 ≤ (3 : Byte).toNat ∧ (15 : Byte).toNat ≤ 15 ∧ 1 ≤ (64 : Byte).toNat ∧
      (1 : Byte).toNat ≤ 1) ∧ ¬ word4 0 0x1E 0x84 0x80 ≤ 1999999 := by decide

theorem witness_NoteAckRemoves :
    let s : State := asked (ask 0x15 [9]) { live with notes := { live.notes with queue := [awaiting 1 0] } }
    Request s (ask 0x15 [9]) [] 0x15 [9] ∧ Addressed s (ask 0x15 [9]) ∧ NoteLaws s :=
  ⟨⟨⟨rfl, rfl, rfl, by decide, rfl⟩, by decide, by decide⟩, ⟨by decide, by intro e he; cases he⟩,
    ⟨by decide, notesOrdered_awaiting 1 0 (by decide) (by decide), ⟨(by intro h; cases h), by decide⟩⟩⟩

theorem witness_CommonChecksRefuse :
    0x18 < (0x19 : Byte).toNat ∧
    (let f : FrameBytes := [5, 0x60, 1, 0, 0, 0]
     let s := asked f live
     Takes s f [] ∧ Addressed s f ∧ payloadOf f = []) ∧
    requestTable[23]? = some (.restart, 1) ∧ lenOf (ask 0x18 [0]) ≠ 1 ∧
    Request (asked (ask 0x18 [0]) live) (ask 0x18 [0]) [] (BitVec.ofNat 8 (23 + 1)) [0] :=
  ⟨by decide, ⟨⟨rfl, rfl, rfl, by decide, rfl⟩, ⟨by decide, by intro e he; cases he⟩, by decide⟩, rfl, by decide,
    (witness_requests _ _ (by decide)).1⟩

theorem witness_ReplayAndIgnore :
    (let f := ask 0x01 []
     let e : CacheEntry := { tag := 1, payload := [0x01], replies := [[1], [2], [3]] }
     let s := asked f { live with mgmt := { live.mgmt with cache := some e } }
     Takes s f [] ∧ destOf f ≠ 127 ∧ s.mgmt.cache = some e ∧ e.tag = tagOf f ∧ e.payload = payloadOf f ∧
       e.replies ≠ []) ∧
    (let f := call 0x01 []
     Takes (asked f live) f [] ∧ destOf f = 127 ∧
       ∀ op args, payloadOf f = op :: args → op ∉ ([0x0D, 0x0E, 0x0F, 0x10] : List Byte)) ∧
    (.restart ∈ requestSteps ∧
      ({ live with mgmt := { live.mgmt with mode := .stalled } } : State).mgmt.mode = .stalled ∧
      ({ live with mgmt := { live.mgmt with mode := .restarting } } : State).mgmt.mode = .restarting) := by
  refine ⟨⟨⟨rfl, rfl, rfl, by decide, rfl⟩, by decide, rfl, by decide, by decide, by decide⟩,
    ⟨⟨rfl, rfl, rfl, by decide, rfl⟩, by decide, ?_⟩, by decide⟩
  intro op args h
  have hp : payloadOf (call 0x01 []) = [0x01] := by decide
  rw [hp] at h
  cases h
  decide

/-! ### Invariants -/

/-- The live part holding two frames meets every invariant, and a step from it answers a next state. -/
theorem witness_invariants :
    let s : State := { lastTick (holding0 [2, 1]) with pending := [.wrap []] }
    Capacities s ∧ StreamTable s ∧ PlanLaws s ∧ WindowLaws s ∧ NoteLaws s ∧ LengthLaws s ∧ PoolLaws s ∧
      NoCandidateIdle s ∧ ∃ s', step s = .next s' := by
  have hb : StreamsBounded { lastTick (holding0 [2, 1]) with pending := [.wrap []] } :=
    holding0_bounded [2, 1] (by decide) _ rfl
  have ho : ∀ l : Nat, PlanOrdered [] := fun _ => ⟨by decide, by simp, by decide⟩
  have hp : PlansOrdered { lastTick (holding0 [2, 1]) with pending := [.wrap []] } :=
    ⟨ho 0, ho 0, by decide, by decide⟩
  have hw : WindowLaws { lastTick (holding0 [2, 1]) with pending := [.wrap []] } :=
    ⟨hp, hb, (by intro w h; cases h), (by intro h; cases h), fun _ => rfl, fun _ => rfl, (by intro h; cases h)⟩
  have ht : TagsDistinct { lastTick (holding0 [2, 1]) with pending := [.wrap []] } := by
    have h : ∀ i : StreamId, ((holding0 [2, 1]).stream i).valid = true → i = 0 := by decide
    intro i j hi hj _
    rw [h i hi, h j hj]
  refine ⟨⟨⟨by decide, by decide, by decide, by decide, by decide⟩,
    ⟨fun _ => rfl, by decide, by decide, fun h => absurd rfl h⟩, fun _ => ⟨fun _ => by decide, (by intro h; cases h),
      fun h => absurd rfl h⟩⟩, ⟨hb, ht⟩,
    ⟨hp, ⟨(by intro a ha; cases ha), (by intro h; cases h)⟩,
      ⟨by decide, fun _ => ⟨rfl, rfl⟩, .inl ⟨rfl, rfl⟩, by decide⟩⟩,
    hw, ⟨by decide, ⟨(by intro r h; cases h), (by intro r h; cases h), (by intro r h; cases h), (by intro r h; cases h)⟩,
      ⟨(by intro h; cases h), by decide⟩⟩,
    ⟨hp, ⟨by decide, by decide, by decide, by decide, by decide⟩, ⟨(by intro h; cases h), (by intro h; cases h)⟩, by decide, by decide⟩,
    ⟨hb, fun h => let ⟨⟨a, b, c, d, e⟩, u, v⟩ := poolLaws_holding0.2 h; ⟨⟨a, b, c, d, e⟩, u, v⟩⟩, ⟨hw, fun _ => ⟨fun _ _ => ⟨rfl, rfl, rfl⟩, fun _ _ => ⟨rfl, rfl⟩⟩⟩, exec_next (.wrap []) (lastTick (holding0 [2, 1]))⟩

end Sys2Proof.Tests
end

section
/-! PROOF. What the operations on a port leave, what an event must leave for the arbiters to stand still, and the
settling of the obligations on lines and on bytes taken (R3, R15 to R17). -/

namespace Sys2Proof.Link

open Sys2Proof.Machine Sys2Proof.Safety Sys2Proof.Claims

/-! ### A port's receiver and counters -/

@[simp] theorem port_withPort (p : Port) (rx : Receiver) (c : PortCounters) (s : State) :
    (withPort p rx c s).port p = { s.port p with rx := rx, counters := c } := setPort_port_self s p _

@[simp] theorem withPort_withPort (p : Port) (rx rx' : Receiver) (c c' : PortCounters) (s : State) :
    withPort p rx c (withPort p rx' c' s) = withPort p rx c s := by cases p <;> rfl

theorem setRx_eq_withPort (p : Port) (rx : Receiver) (s : State) :
    setRx p rx s = withPort p rx (s.port p).counters s := by cases p <;> rfl

theorem countPort_eq_withPort (p : Port) (f : PortCounters → PortCounters) (s : State) :
    countPort p f s = withPort p (s.port p).rx (f (s.port p).counters) s := by cases p <;> rfl

theorem setRx_withPort (p : Port) (rx rx' : Receiver) (c : PortCounters) (s : State) :
    setRx p rx (withPort p rx' c s) = withPort p rx c s := by simp [setRx_eq_withPort]

theorem countPort_withPort (p : Port) (f : PortCounters → PortCounters) (rx : Receiver) (c : PortCounters) (s : State) :
    countPort p f (withPort p rx c s) = withPort p rx (f c) s := by simp [countPort_eq_withPort]

theorem countPort_setRx (p : Port) (f : PortCounters → PortCounters) (rx : Receiver) (s : State) :
    countPort p f (setRx p rx s) = withPort p rx (f (s.port p).counters) s := by
  rw [setRx_eq_withPort, countPort_withPort]

@[simp] theorem withPort_pool (p : Port) (rx : Receiver) (c : PortCounters) (s : State) :
    (withPort p rx c s).pool = s.pool := setPort_pool s p _

@[simp] theorem withPort_streams (p : Port) (rx : Receiver) (c : PortCounters) (s : State) :
    (withPort p rx c s).streams = s.streams := setPort_streams s p _

@[simp] theorem withPort_stream (p : Port) (rx : Receiver) (c : PortCounters) (s : State) (i : StreamId) :
    (withPort p rx c s).stream i = s.stream i := by simp [State.stream]

@[simp] theorem withPort_mgmt (p : Port) (rx : Receiver) (c : PortCounters) (s : State) :
    (withPort p rx c s).mgmt = s.mgmt := setPort_mgmt s p _

@[simp] theorem withPort_markArea (p : Port) (rx : Receiver) (c : PortCounters) (s : State) :
    (withPort p rx c s).markArea = s.markArea := setPort_markArea s p _

@[simp] theorem withPort_mgmtArea (p : Port) (rx : Receiver) (c : PortCounters) (s : State) :
    (withPort p rx c s).mgmtArea = s.mgmtArea := setPort_mgmtArea s p _

/-! ### Events that invoke no arbiter (R32, R100) -/

/-- All that the invocation of the U transmitter arbiter depends on (R32). -/
def arbiterViewU (s : State) := (s.txU, s.portU.link, s.stores.back, s.mgmt.outbox, s.notes)

/-- All that the invocation of the D transmitter arbiter depends on (R100). -/
def arbiterViewD (s : State) := (s.txD, s.portD.link, s.stores.mark, s.stores.pass, s.engine, gateOpen s)

/-- All that the invocation of either arbiter depends on. -/
def arbiterView (s : State) := (arbiterViewU s, arbiterViewD s)

theorem noteAppears_of_notes_eq {before after : State} (h : after.notes = before.notes) :
    noteAppears before after = false := by
  unfold noteAppears
  rw [h]
  cases noteOffered before.notes <;> simp

theorem invokesU_of_view_eq {before after : State} (h : arbiterViewU after = arbiterViewU before) :
    invokesU before after = false := by
  simp only [arbiterViewU, Prod.mk.injEq] at h
  obtain ⟨htx, hlink, hback, houtbox, hnotes⟩ := h
  simp only [invokesU, htx, hlink, hback, houtbox, noteAppears_of_notes_eq hnotes, Bool.and_not_self]
  cases before.txU <;> cases before.portU.link <;> rfl

theorem invokesD_of_view_eq {before after : State} (h : arbiterViewD after = arbiterViewD before) :
    invokesD before after = false := by
  simp only [arbiterViewD, Prod.mk.injEq] at h
  obtain ⟨htx, hlink, hmark, hpass, hengine, hgate⟩ := h
  simp only [invokesD, htx, hlink, hmark, hpass, hengine, hgate, Bool.and_not_self, Bool.not_and_self,
    bne_self_eq_false]
  cases before.txD <;> cases before.portD.link <;> cases before.stores.mark <;> rfl

/-- An event that leaves all of that as it is ends without a decision. -/
theorem conclude_of_arbiterView_eq {before after : State} (h : arbiterView after = arbiterView before) :
    conclude before after = after := by
  obtain ⟨hU, hD⟩ := Prod.mk.inj h
  exact conclude_of_quiet (invokesU_of_view_eq hU) (invokesD_of_view_eq hD)

@[simp] theorem arbiterView_withPort (p : Port) (rx : Receiver) (c : PortCounters) (s : State) :
    arbiterView (withPort p rx c s) = arbiterView s := by cases p <;> rfl

@[simp] theorem arbiterView_released (rx : Receiver) (s : State) : arbiterView (released rx s) = arbiterView s := rfl

@[simp] theorem arbiterView_areaTaken (r : Route) (f : FrameBytes) (s : State) :
    arbiterView (areaTaken r f s) = arbiterView s := rfl

/-! ### Occurrences (R150) -/

/-- What a report leaves in the note unit depends on that unit, the node address and the cycle number alone. -/
theorem report_notes_congr (o : Occurrence) {s t : State} (hn : t.notes = s.notes) (ha : t.nodeAddr = s.nodeAddr)
    (hc : t.timer.cycle = s.timer.cycle) : (report o t).notes = (report o s).notes := by
  unfold report State.addressed
  rw [hn, ha, hc]
  split
  · rfl
  · exact hn

/-- What neither reads nor changes the note unit, the node address and the cycle number may come before or after a
report. -/
theorem report_comm {f : State → State} {s : State} (o : Occurrence)
    (hf : ∀ n, f { s with notes := n } = { f s with notes := n }) (ha : (f s).nodeAddr = s.nodeAddr)
    (hc : (f s).timer.cycle = s.timer.cycle) : f (report o s) = report o (f s) := by
  have hn : (f s).notes = s.notes := (congrArg State.notes (hf s.notes) :)
  rw [report_eq o s, hf, report_eq o (f s), report_notes_congr o hn ha hc]

/-! ### The line reports its state (R15 to R17) -/

theorem releaseResource_eq (rx : Receiver) (s : State) : releaseResource rx s = released rx s := by
  obtain ⟨state, count, header, crc, check, route, buffer⟩ := rx
  cases buffer <;> rcases route with _ | (_ | _ | _ | _ | _ | _ | _ | _) <;> rfl

theorem released_withPort (p : Port) (rx rx' : Receiver) (c : PortCounters) (s : State) :
    released rx (withPort p rx' c s) = withPort p rx' c (released rx s) := by cases p <;> rfl

theorem countPort_released_withPort (p : Port) (f : PortCounters → PortCounters) (rx rx' : Receiver) (c : PortCounters)
    (s : State) : countPort p f (released rx (withPort p rx' c s)) = released rx (withPort p rx' (f c) s) := by
  rw [released_withPort, countPort_withPort, released_withPort]

theorem cutFrame_eq (p : Port) (s : State) : cutFrame p s = cut p s := by
  unfold cutFrame cut
  dsimp only
  cases (s.port p).rx.state with
  | idle => rfl
  | skip => exact setRx_eq_withPort p _ s
  | header => exact countPort_setRx p _ _ s
  | body =>
    dsimp only
    rw [releaseResource_eq, setRx_eq_withPort, countPort_released_withPort]

theorem cut_nodeAddr (p : Port) (s : State) : (cut p s).nodeAddr = s.nodeAddr := by
  unfold cut; cases p <;> dsimp only <;> split <;> rfl

theorem cut_timer (p : Port) (s : State) : (cut p s).timer = s.timer := by
  unfold cut; cases p <;> dsimp only <;> split <;> rfl

theorem cut_notes_comm (p : Port) (s : State) (n : Notes) :
    cut p { s with notes := n } = { cut p s with notes := n } := by
  unfold cut
  cases p with
  | u => dsimp only [State.port]; cases s.portU.rx.state <;> rfl
  | d => dsimp only [State.port]; cases s.portD.rx.state <;> rfl

theorem changeLink_eq (p : Port) (l : Link) (s : State) : changeLink p l s = lineChanged p l s := by
  have hset : countPort p (fun c => { c with linkChanges := c.linkChanges + 1 }) (setLink p l s) =
      s.setPort p { s.port p with
        link := l
        counters := { (s.port p).counters with linkChanges := (s.port p).counters.linkChanges + 1 } } := by
    cases p <;> rfl
  unfold changeLink lineChanged
  dsimp only
  rw [hset]
  cases l with
  | up => rfl
  | down =>
    dsimp only
    rw [cutFrame_eq, if_pos rfl]
    exact report_comm _ (cut_notes_comm p _) (cut_nodeAddr p _) (congrArg Timer.cycle (cut_timer p _))

/-- Settles O5: the cut of a frame may come before or after the report of the change. -/
theorem linkReportTaken : Obligations.LinkReportTaken := by
  intro s p l hrun
  have hexec : exec (.linkChange p l) s = .next (linkReport p l s) := by
    show Host.Outcome.next (if s.power = .running then linkReport p l s else s) = _
    rw [if_pos hrun]
  rw [hexec]
  unfold linkReport
  constructor
  · intro hl; rw [if_pos hl]
  · intro hl; rw [if_neg hl, changeLink_eq]

/-! ### A byte of a frame (R3) -/

theorem receives_of_receiving {p : Port} {s : State} (h : Receiving p s) : receives p s = true := by
  simp [receives, h.1, h.2]

theorem exec_firstByteOfFrame {p : Port} {s : State} (h : Receiving p s) (b : Byte) :
    exec (.firstByteOfFrame p b) s = .next (byteEvent p b s) := by
  show Host.Outcome.next (if receives p s then byteEvent p b s else s) = _
  rw [if_pos (receives_of_receiving h)]

/-- A byte of the header joins it and enters the running CHECK. -/
theorem rxByte_header {rx : Receiver} (h : rx.count < 4) (b : Byte) :
    rxByte rx b = { rx with count := rx.count + 1, header := rx.header ++ [b], crc := crcByte rx.crc b } := by
  simp [rxByte, h]

/-- A byte after the header leaves it as it is, enters the running CHECK or the CHECK received, or is only counted. -/
theorem rxByte_body {rx : Receiver} (h : 4 ≤ rx.count) (b : Byte) :
    rxByte rx b =
      { rx with
        count := rx.count + 1
        crc := if rx.count < 4 + lenOf rx.header then crcByte rx.crc b else rx.crc
        check :=
          if 4 + lenOf rx.header ≤ rx.count ∧ rx.count < 6 + lenOf rx.header then (rx.check <<< 8) ||| b.zeroExtend 16
          else rx.check } := by
  have h4 : ¬ rx.count < 4 := Nat.not_lt.2 h
  by_cases hp : rx.count < 4 + lenOf rx.header
  · simp [rxByte, h4, hp, Nat.not_le.2 hp]
  · simp [rxByte, h4, hp, Nat.not_lt.1 hp]

/-- Bytes beyond the 6 + LEN announced are not written. -/
theorem writeByte_of_beyond {rx : Receiver} (h : ¬ rx.count < 6 + lenOf rx.header) (b : Byte) (s : State) :
    writeByte rx b s = s := if_neg h

theorem bodyByte_eq {p : Port} {s : State} (h : 4 ≤ (s.port p).rx.count) (b : Byte) :
    bodyByte p b s = bodyTaken p b s := by
  unfold bodyByte bodyTaken
  dsimp only
  rw [rxByte_body h]
  by_cases hw : (s.port p).rx.count < 6 + lenOf (s.port p).rx.header
  · unfold writeByte
    rw [if_pos hw, if_pos hw]
    rcases (s.port p).rx.route with _ | (_ | _ | _ | _ | _ | _ | _ | _) <;>
      cases (s.port p).rx.buffer <;> cases p <;> rfl
  · rw [writeByte_of_beyond hw, if_neg hw, setRx_eq_withPort]

/-- Settles O6, by the receiver's state. -/
theorem frameByteTaken : Obligations.FrameByteTaken := by
  intro s p b hrec
  dsimp only
  rw [exec_firstByteOfFrame hrec]
  unfold byteEvent
  refine ⟨fun h => ?_, fun h hc => ?_, fun h hc => ?_, fun h => ?_⟩ <;> simp only [h]
  · rw [setRx_eq_withPort, rxByte_header (by decide)]
    rfl
  · rw [if_neg (by omega), setRx_eq_withPort, rxByte_header (by omega), h]
  · rw [bodyByte_eq hc]

end Sys2Proof.Link
end

section
/-! PROOF. The fields of a header as numbers, the route they give, the pool's grant, and the settling of the obligation
on header time (R3, R4, R7 to R9, R12, R21). -/

namespace Sys2Proof.Link

open Sys2Proof.Machine Sys2Proof.Safety Sys2Proof.Claims

/-! ### The fields of a header (R1, R144) -/

section Fields

variable (b0 b1 b2 b3 : Byte)

theorem destOf_toNat : (destOf [b0, b1, b2, b3]).toNat = b0.toNat % 128 := by
  simp [destOf, byteAt]

theorem kindOf_toNat : (kindOf [b0, b1, b2, b3]).toNat = b1.toNat / 32 := by
  have := b1.isLt
  simp [kindOf, byteAt, Nat.shiftRight_eq_div_pow]
  omega

theorem tagOf_toNat : (tagOf [b0, b1, b2, b3]).toNat = b1.toNat % 4 * 256 + b2.toNat := by
  refine (BitVec.toNat_append (b1.extractLsb' 0 2) b2).trans ?_
  rw [← Nat.shiftLeft_add_eq_or_of_lt b2.isLt, BitVec.extractLsb'_toNat, Nat.shiftLeft_eq]
  simp

theorem lenOf_header : lenOf [b0, b1, b2, b3] = b3.toNat := rfl

theorem kindOf_eq_iff (k : BitVec 3) : kindOf [b0, b1, b2, b3] = k ↔ b1.toNat / 32 = k.toNat := by
  rw [← BitVec.toNat_inj, kindOf_toNat]

theorem tagOf_eq_iff (t : Tag) : t = tagOf [b0, b1, b2, b3] ↔ t.toNat = b1.toNat % 4 * 256 + b2.toNat := by
  rw [← BitVec.toNat_inj, tagOf_toNat]

theorem kindOf_data : kindOf [b0, b1, b2, b3] = kindData ↔ b1.toNat / 32 = 1 := kindOf_eq_iff b0 b1 b2 b3 _

theorem kindOf_mark : kindOf [b0, b1, b2, b3] = kindMark ↔ b1.toNat / 32 = 2 := kindOf_eq_iff b0 b1 b2 b3 _

theorem kindOf_mgmt : kindOf [b0, b1, b2, b3] = kindMgmt ↔ b1.toNat / 32 = 3 := kindOf_eq_iff b0 b1 b2 b3 _

theorem reservedClear_iff :
    reservedClear [b0, b1, b2, b3] = true ↔ b0.toNat < 128 ∧ b1.toNat / 4 % 8 = 0 := by
  have htop : b0.extractLsb' 7 1 = 0 ↔ b0.toNat < 128 := by
    rw [← BitVec.toNat_inj, BitVec.extractLsb'_toNat, Nat.shiftRight_eq_div_pow]
    have := b0.isLt
    show b0.toNat / 2 ^ 7 % 2 ^ 1 = 0 ↔ _
    omega
  have hmid : b1.extractLsb' 2 3 = 0 ↔ b1.toNat / 4 % 8 = 0 := by
    rw [← BitVec.toNat_inj, BitVec.extractLsb'_toNat, Nat.shiftRight_eq_div_pow]
    exact Iff.rfl
  rw [← htop, ← hmid]
  simp [reservedClear, byteAt]

/-- The model finds a header MALFORMED exactly where R4 does. -/
theorem headerMalformed_iff : headerMalformed [b0, b1, b2, b3] = true ↔ BadHeader b0 b1 b2 b3 := by
  have hzero : kindOf [b0, b1, b2, b3] = 0 ↔ b1.toNat / 32 = 0 := kindOf_eq_iff b0 b1 b2 b3 0
  have hsix : kindOf [b0, b1, b2, b3] = 6 ↔ b1.toNat / 32 = 6 := kindOf_eq_iff b0 b1 b2 b3 6
  have hseven : kindOf [b0, b1, b2, b3] = 7 ↔ b1.toNat / 32 = 7 := kindOf_eq_iff b0 b1 b2 b3 7
  have htag : tagOf [b0, b1, b2, b3] = 0 ↔ b1.toNat % 4 * 256 + b2.toNat = 0 := by
    rw [← tagOf_toNat b0 b1 b2 b3, ← BitVec.toNat_inj]; rfl
  simp only [headerMalformed, Bool.or_eq_true, Bool.and_eq_true, Bool.not_eq_true', ← Bool.not_eq_true,
    decide_eq_true_eq, bne_iff_ne, beq_iff_eq, ne_eq, reservedClear_iff, hzero, hsix, hseven, kindOf_mark, htag,
    BadHeader]
  rw [lenOf_header]
  omega

end Fields

/-! ### The route (R7 to R9) -/

theorem addressed_iff (s : State) : s.addressed = true ↔ HasAddress s := by
  simp [State.addressed, HasAddress, broadcastAddr]

/-- With distinct TAGs in the stream table, an entry with the frame's TAG is the one the classifier finds (R9, R35). -/
theorem lookup_of_tag {s : State} {t : Tag} {i : StreamId} (hd : TagsDistinct s) (hv : (s.stream i).valid = true)
    (ht : (s.stream i).tag = t) : lookup s t = some i := by
  cases h : lookup s t with
  | none => exact absurd ht (lookup_none.1 h i hv)
  | some j =>
    obtain ⟨hvj, htj⟩ := lookup_some h
    rw [hd j i hvj hv (htj.trans ht.symm)]

/-- An acceptable header takes the route that the tables of R7 and R8 give it. -/
theorem classify_of_routedTo {s : State} {p : Port} {b0 b1 b2 b3 : Byte} {r : Route} (hd : TagsDistinct s)
    (hb : b0.toNat < 128) (h : RoutedTo p s (b1.toNat / 32) b0.toNat (b1.toNat % 4 * 256 + b2.toNat) r) :
    classify p s [b0, b1, b2, b3] = r := by
  have hdest : ∀ a : NodeAddr, destOf [b0, b1, b2, b3] = a ↔ b0.toNat = a.toNat := fun a => by
    rw [← BitVec.toNat_inj, destOf_toNat, Nat.mod_eq_of_lt hb]
  cases p with
  | d =>
    unfold classify classifyD
    simp only [kindOf_mark, kindOf_mgmt]
    rcases h with ⟨hkind, rfl⟩ | ⟨hkind, rfl⟩
    · rw [if_pos (by omega)]
    · rw [if_neg (by omega)]
  | u =>
    unfold classify classifyU
    simp only [kindOf_data, kindOf_mark, kindOf_mgmt, hdest]
    have hbroadcast : broadcastAddr.toNat = 127 := rfl
    rcases h with ⟨hkind, i, hv, ht, rfl⟩ | ⟨hkind, hnone, hpolicy⟩ | ⟨hkind, rfl⟩ | ⟨hkind, ha, hto, rfl⟩ |
      ⟨hkind, ha, hto, rfl⟩ | ⟨hkind, hno, rfl⟩ | ⟨hkind, rfl⟩
    · simp [hkind, lookup_of_tag hd hv ((tagOf_eq_iff b0 b1 b2 b3 _).2 ht)]
    · have hl : lookup s (tagOf [b0, b1, b2, b3]) = none :=
        lookup_none.2 fun i hv ht => hnone i hv ((tagOf_eq_iff b0 b1 b2 b3 _).1 ht)
      rcases hpolicy with ⟨hu, rfl⟩ | ⟨hu, rfl⟩ <;> simp [hkind, hl, hu]
    · simp [hkind]
    · simp [hkind, (addressed_iff s).2 ha, hto]
    · have hne : ¬ s.nodeAddr.toNat = 127 := fun e => ha.2 (BitVec.eq_of_toNat_eq e)
      simp [hkind, (addressed_iff s).2 ha, hto, hbroadcast, Ne.symm hne]
    · rcases hno with hno | ⟨hn, h127⟩
      · simp [hkind, mt (addressed_iff s).1 hno]
      · simp [hkind, hbroadcast, hn, h127]
    · rcases hkind with hkind | hkind <;> simp [hkind]

/-! ### The pool's grant (R21) -/

theorem freeCount_eq (s : State) : freeCount s = freeBuffers s := by
  unfold freeCount freeBuffers
  rw [List.countP_eq_length_filter]
  congr 1

theorem mayAllocate_iff (p : Port) (s : State) : mayAllocate p s = true ↔ Granted p s := by
  cases p <;> simp [mayAllocate, Granted, freeCount_eq, Nat.succ_le_iff]

/-- Where a buffer is granted there is a lowest FREE one. -/
theorem exists_lowestFree {p : Port} {s : State} (h : Granted p s) : ∃ x, lowestFree s = some x := by
  cases hl : lowestFree s with
  | some x => exact ⟨x, rfl⟩
  | none =>
    have hnone := lowestFree_none.1 hl
    have hzero : freeBuffers s = 0 := by
      refine List.countP_eq_zero.2 fun b hb => ?_
      obtain ⟨i, hi, rfl⟩ := List.getElem_of_mem hb
      simpa using hnone ⟨i, by simpa using hi⟩
    cases p <;> simp [Granted, hzero] at h

/-! ### Header time (R3) -/

theorem exec_headerTime {p : Port} {s : State} (h : Receiving p s) (hstate : (s.port p).rx.state = .header)
    (hcount : (s.port p).rx.count = 3) (b : Byte) :
    exec (.headerTime p b) s = .next (conclude s (headerEvent p b s)) := by
  show Host.Outcome.next (if receives p s && headerDue p s then conclude s (headerEvent p b s) else s) = _
  rw [if_pos]
  simp [receives_of_receiving h, headerDue, hstate, hcount]

/-- The receiver enters BODY without a buffer, the header in the area of its route. -/
theorem enterBody_none {rx : Receiver} (h : rx.count = 3) (p : Port) (b : Byte) (r : Route) (s : State) :
    enterBody p (rxByte rx b) r none s =
      areaTaken r (rx.header ++ [b]) (withPort p (inBody rx b r none) (s.port p).counters s) := by
  rw [rxByte_header (by omega), h]
  cases p <;> cases r <;> rfl

/-- The receiver enters BODY with a buffer that holds the header. -/
theorem enterBody_some {rx : Receiver} (h : rx.count = 3) (p : Port) (b : Byte) (r : Route) (x : BufId) (s : State) :
    enterBody p (rxByte rx b) r (some x) s =
      { areaTaken r (rx.header ++ [b]) (withPort p (inBody rx b r (some x)) (s.port p).counters s) with
        pool := s.pool.set x { state := .filling, bytes := rx.header ++ [b] } } := by
  rw [rxByte_header (by omega), h]
  cases p <;> cases r <;> rfl

theorem enterBody_frame (p : Port) (rx : Receiver) (r : Route) (s : State) :
    (enterBody p rx r none s).nodeAddr = s.nodeAddr ∧ (enterBody p rx r none s).timer = s.timer ∧
      ∀ n, enterBody p rx r none { s with notes := n } = { enterBody p rx r none s with notes := n } := by
  cases p <;> cases r <;> exact ⟨rfl, rfl, fun _ => rfl⟩

/-- A refusal counts RX_NOBUF and reports POOL_EXHAUSTED; the receiver skips the frame, but stays for the management
copy of a broadcast request (R12, R21). -/
theorem afterRefusal_eq {p : Port} {s : State} (h : (s.port p).rx.count = 3) (b : Byte) {r : Route}
    (hr : r.needsBuffer = true) :
    afterRefusal p (rxByte (s.port p).rx b) r s = bufferRefused p b r s := by
  have hskip : setRx p skipping (refuseBuffer p s) =
      report .poolExhausted (withPort p { state := .skip }
        { (s.port p).counters with rxNobuf := (s.port p).counters.rxNobuf + 1 } s) := by
    unfold refuseBuffer
    rw [report_comm (f := setRx p skipping), countPort_eq_withPort, setRx_withPort]
    · rfl
    all_goals cases p <;> intros <;> rfl
  cases r with
  | broadcast =>
    obtain ⟨haddr, htimer, hnotes⟩ := enterBody_frame p (rxByte (s.port p).rx b) .broadcast
      (countPort p (fun c => { c with rxNobuf := c.rxNobuf + 1 }) s)
    show enterBody p _ .broadcast none (refuseBuffer p s) = _
    unfold refuseBuffer bufferRefused
    dsimp only
    rw [report_comm (f := enterBody p _ .broadcast none) _ hnotes haddr (congrArg Timer.cycle htimer), if_pos rfl,
      enterBody_none h, countPort_eq_withPort, withPort_withPort, port_withPort]
  | hold i => exact hskip
  | pass => exact hskip
  | back => exact hskip
  | drop => cases hr
  | mark => cases hr
  | mgmt => cases hr
  | misdirected => cases hr

/-- Settles O7: the classifier's route is the tables' route, and the pool's answer decides. -/
theorem headerRouted : Obligations.HeaderRouted := by
  intro s p b0 b1 b2 b r hrec hstate hcount hheader hgood hdistinct hroute
  dsimp only
  have hfull : (s.port p).rx.header ++ [b] = [b0, b1, b2, b] := by rw [hheader]; rfl
  have hlow : b0.toNat < 128 := by
    by_contra hhigh
    exact hgood (.inl (Nat.not_lt.1 hhigh))
  have hevent : headerEvent p b s = takeResource p (rxByte (s.port p).rx b) r s := by
    have hrx : (rxByte (s.port p).rx b).header = [b0, b1, b2, b] := by rw [rxByte_header (by omega)]; exact hfull
    unfold headerEvent
    dsimp only
    rw [hrx, if_neg (fun hm => hgood ((headerMalformed_iff b0 b1 b2 b).1 hm)),
      classify_of_routedTo hdistinct hlow hroute]
  rw [exec_headerTime hrec hstate hcount, hevent]
  unfold takeResource
  refine ⟨fun hneeds => ?_, fun hneeds hgrant => ?_, fun hneeds hgrant => ?_⟩
  · rw [if_neg (by simp [hneeds]), enterBody_none hcount, hfull, conclude_of_arbiterView_eq (by simp)]
  · obtain ⟨x, hx⟩ := exists_lowestFree hgrant
    obtain ⟨hfree, hlowest⟩ := lowestFree_some hx
    refine ⟨x, hfree, hlowest, ?_⟩
    rw [if_pos hneeds, if_pos ((mayAllocate_iff p s).2 hgrant), hx]
    dsimp only
    rw [enterBody_some hcount, hfull, conclude_of_arbiterView_eq]
    exact arbiterView_withPort p _ _ s
  · rw [if_pos hneeds, if_neg (fun hm => hgrant ((mayAllocate_iff p s).1 hm)), afterRefusal_eq hcount b hneeds]

end Sys2Proof.Link
end

section
/-! PROOF. The end of a frame: what its last byte leaves, and the settling of the obligation on the bad ends (R4, R5,
R13, R23). -/

namespace Sys2Proof.Link

open Sys2Proof.Machine Sys2Proof.Safety Sys2Proof.Claims

/-! ### The last byte (R3, R5) -/

theorem exec_frameEnd {p : Port} {s : State} (h : Receiving p s) (b : Byte) :
    exec (.frameEnd p b) s = .next (conclude s (endEvent p b s)) := by
  show Host.Outcome.next (if receives p s then conclude s (endEvent p b s) else s) = _
  rw [if_pos (receives_of_receiving h)]

theorem writeByte_port (rx : Receiver) (b : Byte) (p : Port) (s : State) : (writeByte rx b s).port p = s.port p := by
  obtain ⟨state, count, header, crc, check, route, buffer⟩ := rx
  unfold writeByte
  split
  · cases p <;> cases buffer <;> rcases route with _ | (_ | _ | _ | _ | _ | _ | _ | _) <;> rfl
  · rfl

theorem writeByte_withPort (rx : Receiver) (b : Byte) (p : Port) (rx' : Receiver) (c : PortCounters) (s : State) :
    writeByte rx b (withPort p rx' c s) = withPort p rx' c (writeByte rx b s) := by
  obtain ⟨state, count, header, crc, check, route, buffer⟩ := rx
  unfold writeByte
  split
  · cases p <;> cases buffer <;> rcases route with _ | (_ | _ | _ | _ | _ | _ | _ | _) <;> rfl
  · rfl

theorem setRx_writeByte (p : Port) (rx rx' : Receiver) (b : Byte) (s : State) :
    setRx p rx' (writeByte rx b s) = writeByte rx b (setRx p rx' s) := by
  rw [setRx_eq_withPort, writeByte_port, ← writeByte_withPort, setRx_eq_withPort]

theorem countPort_writeByte (p : Port) (f : PortCounters → PortCounters) (rx : Receiver) (b : Byte) (s : State) :
    countPort p f (writeByte rx b s) = writeByte rx b (countPort p f s) := by
  rw [countPort_eq_withPort, writeByte_port, ← writeByte_withPort, countPort_eq_withPort]

/-- The last byte of a frame in BODY is taken like any other, and the frame ends with the receiver IDLE. -/
theorem endEvent_body {p : Port} {s : State} (h : (s.port p).rx.state = .body) (b : Byte) :
    endEvent p b s =
      endBody p (rxByte (s.port p).rx b)
        (writeByte (s.port p).rx b (withPort p (rxByte (s.port p).rx b) (s.port p).counters s)) := by
  unfold endEvent
  simp only [h]
  unfold bodyByte
  dsimp only
  rw [setRx_writeByte, writeByte_port, setRx_eq_withPort, port_withPort]

/-- What was written into a resource goes with it. -/
theorem released_writeByte (rx : Receiver) (b : Byte) (s : State) : released rx (writeByte rx b s) = released rx s := by
  obtain ⟨state, count, header, crc, check, route, buffer⟩ := rx
  unfold writeByte
  split
  · cases buffer with
    | none => rcases route with _ | (_ | _ | _ | _ | _ | _ | _ | _) <;> rfl
    | some x =>
      rcases route with _ | (_ | _ | _ | _ | _ | _ | _ | _) <;> simp [released, writeBuf, setBuf]
  · rfl

/-- A bad end in BODY counts once and releases what the frame took. -/
theorem countPort_releaseResource_writeByte (p : Port) (f : PortCounters → PortCounters) (b : Byte) (s : State)
    (rx rx' : Receiver) (c : PortCounters) :
    countPort p f (releaseResource (rxByte rx b) (setRx p {} (writeByte rx b (withPort p rx' c s)))) =
      released rx (withPort p {} (f c) s) := by
  rw [releaseResource_eq, setRx_writeByte, setRx_withPort]
  show countPort p f (released rx (writeByte rx b _)) = _
  rw [released_writeByte, countPort_released_withPort]

theorem endBody_of_malformed {rx : Receiver} (h : endOutcome rx = .malformed) (p : Port) (s : State) :
    endBody p rx s =
      countPort p (fun c => { c with rxMalformed := c.rxMalformed + 1 }) (releaseResource rx (setRx p {} s)) := by
  unfold endBody; rw [h]

theorem endBody_of_checkError {rx : Receiver} (h : endOutcome rx = .checkError) (p : Port) (s : State) :
    endBody p rx s =
      countPort p (fun c => { c with rxCheck := c.rxCheck + 1 }) (releaseResource rx (setRx p {} s)) := by
  unfold endBody; rw [h]

theorem endBody_of_good {rx : Receiver} (h : endOutcome rx = .good) (p : Port) (s : State) :
    endBody p rx s = deliver rx (countGood p rx.route (setRx p {} s)) := by
  unfold endBody; rw [h]

/-- The end checks look at the length first. -/
theorem endOutcome_of_length_ne {rx : Receiver} {b : Byte} (h4 : 4 ≤ rx.count)
    (h : rx.count + 1 ≠ 6 + lenOf rx.header) : endOutcome (rxByte rx b) = .malformed := by
  rw [rxByte_body h4]
  exact if_pos h

/-- With the right length the last byte completes the CHECK received, which decides. -/
theorem endOutcome_of_length_eq {rx : Receiver} {b : Byte} (h : rx.count + 1 = 6 + lenOf rx.header) :
    endOutcome (rxByte rx b) =
      if (rx.check <<< 8) ||| b.zeroExtend 16 ≠ rx.crc then .checkError else .good := by
  have hpast : ¬ rx.count < 4 + lenOf rx.header := by omega
  have hlast : 4 + lenOf rx.header ≤ rx.count ∧ rx.count < 6 + lenOf rx.header := by omega
  rw [rxByte_body (by omega), if_neg hpast, if_pos hlast]
  exact if_neg (not_not.2 h)

/-- A MALFORMED header puts the receiver in SKIP. -/
theorem headerEvent_of_malformed {p : Port} {s : State} {b0 b1 b2 b : Byte} (hcount : (s.port p).rx.count = 3)
    (hheader : (s.port p).rx.header = [b0, b1, b2]) (hbad : BadHeader b0 b1 b2 b) :
    headerEvent p b s =
      withPort p { state := .skip }
        { (s.port p).counters with rxMalformed := (s.port p).counters.rxMalformed + 1 } s := by
  have hrx : (rxByte (s.port p).rx b).header = [b0, b1, b2, b] := by rw [rxByte_header (by omega), hheader]; rfl
  unfold headerEvent
  dsimp only
  rw [hrx, if_pos ((headerMalformed_iff b0 b1 b2 b).2 hbad), countPort_setRx]
  rfl

/-- Settles O8, by the receiver's state; no bad end changes what the arbiters look at. -/
theorem badFrameCounted : Obligations.BadFrameCounted := by
  intro s p b hrec
  dsimp only
  rw [exec_frameEnd hrec]
  refine ⟨fun b0 b1 b2 hstate hcount hheader hbad => ?_, fun hstate => ?_, fun hstate => ?_, fun hstate => ?_,
    fun hstate h4 hlen => ?_, fun hstate hlen hcheck => ?_⟩
  · rw [exec_headerTime hrec hstate hcount, headerEvent_of_malformed hcount hheader hbad,
      conclude_of_arbiterView_eq (by simp)]
  · have hend : endEvent p b s = withPort p (s.port p).rx
        { (s.port p).counters with rxMalformed := (s.port p).counters.rxMalformed + 1 } s := by
      unfold endEvent; rw [hstate]; exact countPort_eq_withPort p _ s
    rw [hend, conclude_of_arbiterView_eq (by simp)]
  · have hend : endEvent p b s = withPort p {}
        { (s.port p).counters with rxMalformed := (s.port p).counters.rxMalformed + 1 } s := by
      unfold endEvent; rw [hstate]; exact countPort_setRx p _ _ s
    rw [hend, conclude_of_arbiterView_eq (by simp)]
  · have hend : endEvent p b s = withPort p {} (s.port p).counters s := by
      unfold endEvent; rw [hstate]; exact setRx_eq_withPort p _ s
    rw [hend, conclude_of_arbiterView_eq (by simp)]
  · rw [endEvent_body hstate, endBody_of_malformed (endOutcome_of_length_ne h4 hlen),
      countPort_releaseResource_writeByte, conclude_of_arbiterView_eq (by simp)]
  · rw [endEvent_body hstate, endBody_of_checkError ((endOutcome_of_length_eq hlen).trans (if_pos hcheck)),
      countPort_releaseResource_writeByte, conclude_of_arbiterView_eq (by simp)]

end Sys2Proof.Link
end

section
/-! PROOF. The good end of a frame: what each destination takes, and the settling of the obligations on it (R6, R9 to
R13, R25, R27, R29, R38 to R40, R60, R61, R88, R127). -/

namespace Sys2Proof.Link

open Sys2Proof.Machine Sys2Proof.Safety Sys2Proof.Claims

/-! ### A good frame reaches its destination (R6) -/

@[simp] theorem goodAt_pool (p : Port) (s : State) : (goodAt p s).pool = s.pool := withPort_pool p _ _ s

@[simp] theorem goodAt_stream (p : Port) (s : State) (i : StreamId) : (goodAt p s).stream i = s.stream i :=
  withPort_stream p _ _ s i

@[simp] theorem goodAt_mgmt (p : Port) (s : State) : (goodAt p s).mgmt = s.mgmt := withPort_mgmt p _ _ s

@[simp] theorem goodAt_markArea (p : Port) (s : State) : (goodAt p s).markArea = s.markArea := withPort_markArea p _ _ s

@[simp] theorem goodAt_mgmtArea (p : Port) (s : State) : (goodAt p s).mgmtArea = s.mgmtArea := withPort_mgmtArea p _ _ s

@[simp] theorem arbiterView_goodAt (p : Port) (s : State) : arbiterView (goodAt p s) = arbiterView s :=
  arbiterView_withPort p _ _ s

theorem frameIn_goodAt (p : Port) (s : State) (x : BufId) (b : Byte) : frameIn (goodAt p s) x b = frameIn s x b := by
  simp [frameIn]

/-- The last byte of a frame of the right length is within the 6 + LEN announced. -/
theorem count_lt_of_goodEnd {p : Port} {s : State} {b : Byte} (h : GoodEnd p s b) :
    (s.port p).rx.count < 6 + lenOf (s.port p).rx.header := by have := h.count; omega

/-- Delivery looks at the route, the buffer and the header, which the last byte leaves as they are. -/
theorem deliver_rxByte {rx : Receiver} (h : 4 ≤ rx.count) (b : Byte) (s : State) :
    deliver (rxByte rx b) s = deliver rx s := by
  rw [rxByte_body h]; rfl

theorem endEvent_of_goodEnd {p : Port} {s : State} {b : Byte} (h : GoodEnd p s b) :
    endEvent p b s =
      deliver (s.port p).rx
        (writeByte (s.port p).rx b (countGood p (s.port p).rx.route (withPort p {} (s.port p).counters s))) := by
  have h4 : 4 ≤ (s.port p).rx.count := by have := h.count; omega
  have hroute : (rxByte (s.port p).rx b).route = (s.port p).rx.route := rfl
  rw [endEvent_body h.body, endBody_of_good ((endOutcome_of_length_eq h.count).trans (if_neg (not_not.2 h.check))),
    deliver_rxByte h4, setRx_writeByte, setRx_withPort, hroute]
  unfold countGood
  split <;> rw [countPort_writeByte]

/-- A good frame of an accepted kind is counted in RX_GOOD and delivered with its last byte written. -/
theorem exec_frameEnd_of_goodEnd {p : Port} {s : State} {b : Byte} (h : GoodEnd p s b) {r : Route}
    (hr : (s.port p).rx.route = some r) (hm : r ≠ .misdirected) :
    exec (.frameEnd p b) s =
      .next (conclude s (deliver (s.port p).rx (writeByte (s.port p).rx b (goodAt p s)))) := by
  have hcount : countGood p (s.port p).rx.route (withPort p {} (s.port p).counters s) = goodAt p s := by
    unfold countGood
    rw [hr, if_neg (by simpa using hm), countPort_withPort]
    rfl
  rw [exec_frameEnd h.receiving, endEvent_of_goodEnd h, hcount]

/-! ### The pass-through queue and the return queue (R25, R27) -/

/-- A route to a stream, the pass-through queue or the return queue writes into the pool buffer alone. -/
theorem writeByte_buffer {rx : Receiver} (hw : rx.count < 6 + lenOf rx.header) {x : BufId} (hx : rx.buffer = some x)
    (hr : rx.route = some .pass ∨ rx.route = some .back ∨ ∃ i, rx.route = some (.hold i)) (b : Byte) (s : State) :
    writeByte rx b s = writeBuf x b s := by
  unfold writeByte
  rw [if_pos hw, hx]
  rcases hr with hr | hr | ⟨i, hr⟩ <;> rw [hr]

theorem freeBuf_writeBuf (x : BufId) (b : Byte) (s : State) : freeBuf x (writeBuf x b s) = freed x s := by
  simp [freeBuf, writeBuf, setBuf, freed]

theorem markBuf_writeBuf (x : BufId) (b : Byte) (s : State) :
    markBuf x .queued (writeBuf x b s) = queuedWith x (frameIn s x b) s := by
  simp [markBuf, writeBuf, setBuf, queuedWith, frameIn]

theorem passAppend_writeBuf (x : BufId) (b : Byte) (s : State) :
    passAppend x (writeBuf x b s) = toPass x (frameIn s x b) s := by
  unfold passAppend toPass
  rw [freeBuf_writeBuf, ← markBuf_writeBuf]
  rfl

theorem backAppend_writeBuf (x : BufId) (b : Byte) (s : State) :
    backAppend x (writeBuf x b s) = toBack x (frameIn s x b) s := by
  unfold backAppend toBack
  rw [freeBuf_writeBuf, ← markBuf_writeBuf]
  rfl

/-- Settles O9, by the route: the delivery acts on the frame with its last byte written. -/
theorem goodFrameForwarded : Obligations.GoodFrameForwarded := by
  intro s p b hgood
  dsimp only
  refine ⟨fun hr hx => ?_, fun hr hx => ?_, fun x hr hx => ?_, fun x hr hx => ?_⟩
  · have hw : ∀ t, writeByte (s.port p).rx b t = t := fun t => by
      unfold writeByte; rw [if_pos (count_lt_of_goodEnd hgood), hr, hx]
    have hend : endEvent p b s = withPort p {}
        { (s.port p).counters with rxMisdirected := (s.port p).counters.rxMisdirected + 1 } s := by
      rw [endEvent_of_goodEnd hgood, hw]
      unfold countGood deliver
      rw [hr, if_pos rfl, countPort_withPort]
    rw [exec_frameEnd hgood.receiving, hend, conclude_of_arbiterView_eq (by simp)]
  · have hw : writeByte (s.port p).rx b (goodAt p s) = goodAt p s := by
      unfold writeByte; rw [if_pos (count_lt_of_goodEnd hgood), hr, hx]
    have hend : deliver (s.port p).rx (goodAt p s) = dropped (goodAt p s) := by
      unfold deliver; rw [hr]; rfl
    rw [exec_frameEnd_of_goodEnd hgood hr (by decide), hw, hend, conclude_of_arbiterView_eq]
    exact arbiterView_goodAt p s
  · rw [exec_frameEnd_of_goodEnd hgood hr (by decide), writeByte_buffer (count_lt_of_goodEnd hgood) hx (.inl hr)]
    unfold deliver
    rw [hr, hx]
    dsimp only
    rw [passAppend_writeBuf, frameIn_goodAt]
  · rw [exec_frameEnd_of_goodEnd hgood hr (by decide), writeByte_buffer (count_lt_of_goodEnd hgood) hx (.inr (.inl hr))]
    unfold deliver
    rw [hr, hx]
    dsimp only
    rw [backAppend_writeBuf, frameIn_goodAt]

/-! ### The stream unit (R10, R38 to R40, R88) -/

/-- A stream entry's queue takes a frame: a request stands after it if it stood or the stream's window wants one. -/
theorem raiseFor_of_nonempty {i : StreamId} {s : State} (h : (s.stream i).queue ≠ []) :
    raiseFor i s = { s with engine := { s.engine with request := s.engine.request || windowWants i s } } := by
  unfold raiseFor windowWants
  cases hw : s.engine.window with
  | none => simp
  | some w =>
    by_cases hi : w.stream = i
    · have hf : windowHasFrames s w = true := by
        unfold windowHasFrames
        rw [hi]
        simpa using h
      have hwant : requestWanted s = (w.phase == .opened && !s.engine.request && !w.onLine) := by
        unfold requestWanted
        rw [hw]
        simp [hf]
      simp only [if_pos hi]
      rw [raiseRequest_eq, raiseRequest_request, hwant]
      cases s.engine.request <;> simp [hi, beq_eq_decide]
    · simp [hi]

/-- An admission appends the record, and raises a request where the stream's window wants one (R38, R88). -/
theorem raiseFor_admitRecord_writeBuf (i : StreamId) (x : BufId) (b : Byte) (s : State) :
    raiseFor i (admitRecord i x (writeBuf x b s)) =
      admittedTo i (s.stream i) (s.stream i).queue x (frameIn s x b) s := by
  have hlen : bufBytes (writeBuf x b s) x = frameIn s x b := by simp [bufBytes, writeBuf, setBuf, frameIn]
  unfold admitRecord
  rw [hlen, markBuf_writeBuf, raiseFor_of_nonempty]
  · rfl
  · simp [setQueue]

/-- What an entry was before an admission is overwritten by it. -/
theorem admittedTo_setStream (i : StreamId) (e e' : Stream) (q : List Held) (x : BufId) (m : FrameBytes) (s : State) :
    admittedTo i e q x m (setStream i e' s) = admittedTo i e q x m s := by
  simp [admittedTo, setStream, queuedWith, windowWants]

theorem freeBuf_writeBuf_of_ne {x y : BufId} (h : y ≠ x) (b : Byte) (s : State) :
    freeBuf y (writeBuf x b s) = writeBuf x b (freed y s) := by
  have hne : x.val ≠ y.val := fun e => h (Fin.ext e.symm)
  simp [freeBuf, writeBuf, setBuf, freed, Vector.set_comm _ _ hne, hne.symm]

theorem freed_setStream (x : BufId) (i : StreamId) (e : Stream) (s : State) :
    freed x (setStream i e s) = setStream i e (freed x s) := rfl

theorem frameIn_setStream (i : StreamId) (e : Stream) (s : State) (x : BufId) (b : Byte) :
    frameIn (setStream i e s) x b = frameIn s x b := rfl

theorem frameIn_report (o : Occurrence) (s : State) (x : BufId) (b : Byte) :
    frameIn (report o s) x b = frameIn s x b := by rw [report_eq]; rfl

theorem frameIn_freed_of_ne {x y : BufId} (h : y ≠ x) (s : State) (b : Byte) :
    frameIn (freed y s) x b = frameIn s x b := by
  have hne : y.val ≠ x.val := fun e => h (Fin.ext e)
  simp [frameIn, freed, hne]

theorem report_writeBuf (o : Occurrence) (x : BufId) (b : Byte) (s : State) :
    report o (writeBuf x b s) = writeBuf x b (report o s) :=
  (report_comm (f := writeBuf x b) o (fun _ => rfl) rfl rfl).symm

theorem report_setStream (o : Occurrence) (i : StreamId) (e : Stream) (s : State) :
    report o (setStream i e s) = setStream i e (report o s) :=
  (report_comm (f := setStream i e) o (fun _ => rfl) rfl rfl).symm

theorem countStream_eq (i : StreamId) (f : StreamCounters → StreamCounters) (s : State) :
    countStream i f s = setStream i { s.stream i with counters := f (s.stream i).counters } s := rfl

theorem countStream_setStream (i : StreamId) (f : StreamCounters → StreamCounters) (e : Stream) (s : State) :
    countStream i f (setStream i e s) = setStream i { e with counters := f e.counters } s := by
  rw [countStream_eq, setStream_stream_self]
  simp [setStream]

/-- The head of a full queue is superseded while the new frame waits in another buffer (R39). -/
theorem supersedeHead_writeBuf {i : StreamId} {x : BufId} {s : State} {h : Held} {q : List Held}
    (hq : (s.stream i).queue = h :: q) (hne : h.buffer ≠ x) (b : Byte) :
    supersedeHead i (writeBuf x b s) =
      writeBuf x b
        (setStream i
          { s.stream i with
            queue := q
            counters := { (s.stream i).counters with superseded := (s.stream i).counters.superseded + 1 } }
          (report (.superseded i) (freed h.buffer s))) := by
  have hq' : ((writeBuf x b s).stream i).queue = h :: q := hq
  unfold supersedeHead
  rw [hq']
  dsimp only
  rw [freeBuf_writeBuf_of_ne hne, setQueue, countStream_setStream, ← report_setStream, ← report_writeBuf]
  rfl

/-- An entry with ARRIVED raised (R38). -/
def withArrived (e : Stream) : Stream := { e with counters := { e.counters with arrived := e.counters.arrived + 1 } }

/-- An entry whose head is superseded, leaving `q` (R39). -/
def withSuperseded (e : Stream) (q : List Held) : Stream :=
  { e with queue := q, counters := { e.counters with superseded := e.counters.superseded + 1 } }

/-- An entry that refuses a frame (R40). -/
def withRefused (e : Stream) : Stream := { e with counters := { e.counters with refused := e.counters.refused + 1 } }

section Handed

variable {i : StreamId} {x : BufId} {m : FrameBytes} {s : State}

theorem handedToStream_of_room (h : (s.stream i).queue.length < (s.stream i).depth) :
    handedToStream i x m s = admittedTo i (withArrived (s.stream i)) (s.stream i).queue x m s := if_pos h

theorem handedToStream_of_replace (h : ¬ (s.stream i).queue.length < (s.stream i).depth)
    (hp : (s.stream i).policy = .replace) {r : Held} {q : List Held} (hq : (s.stream i).queue = r :: q) :
    handedToStream i x m s =
      admittedTo i (withSuperseded (withArrived (s.stream i)) q) q x m
        (report (.superseded i) (freed r.buffer s)) := by
  unfold handedToStream
  dsimp only
  rw [if_neg h, hp, hq]
  unfold withSuperseded withArrived
  rw [hp]
  rfl

theorem handedToStream_of_empty (h : ¬ (s.stream i).queue.length < (s.stream i).depth)
    (hp : (s.stream i).policy = .replace) (hq : (s.stream i).queue = []) :
    handedToStream i x m s = admittedTo i (withArrived (s.stream i)) [] x m s := by
  unfold handedToStream withArrived
  dsimp only
  rw [if_neg h, hp, hq]

theorem handedToStream_of_keep (h : ¬ (s.stream i).queue.length < (s.stream i).depth)
    (hp : (s.stream i).policy = .keep) :
    handedToStream i x m s =
      report (.refused i) (setStream i (withRefused (withArrived (s.stream i))) (freed x s)) := by
  unfold handedToStream withRefused withArrived
  dsimp only
  rw [if_neg h, hp]
  rfl

end Handed

/-- A frame handed to its entry is admitted, takes the place of the head, or is refused (R38 to R40). -/
theorem admitFrame_writeBuf {i : StreamId} {x : BufId} {s : State} (h : ∀ r ∈ (s.stream i).queue, r.buffer ≠ x)
    (b : Byte) : admitFrame i x (writeBuf x b s) = handedToStream i x (frameIn s x b) s := by
  have hcount : countStream i (fun c => { c with arrived := c.arrived + 1 }) (writeBuf x b s) =
      writeBuf x b (setStream i (withArrived (s.stream i)) s) := rfl
  have hset : (setStream i (withArrived (s.stream i)) s).stream i = withArrived (s.stream i) :=
    setStream_stream_self i _ s
  have hentry : (writeBuf x b (setStream i (withArrived (s.stream i)) s)).stream i = withArrived (s.stream i) := hset
  have hpolicy : (withArrived (s.stream i)).policy = (s.stream i).policy := rfl
  have hqueue : (withArrived (s.stream i)).queue = (s.stream i).queue := rfl
  have hdepth : (withArrived (s.stream i)).depth = (s.stream i).depth := rfl
  unfold admitFrame
  dsimp only
  rw [hcount, hentry, hqueue, hdepth, hpolicy]
  by_cases hroom : (s.stream i).queue.length < (s.stream i).depth
  · rw [if_pos hroom, handedToStream_of_room hroom, raiseFor_admitRecord_writeBuf, hset, admittedTo_setStream,
      frameIn_setStream, hqueue]
  · rw [if_neg hroom]
    cases hp : (s.stream i).policy with
    | replace =>
      dsimp only
      cases hq : (s.stream i).queue with
      | nil =>
        have hsame : supersedeHead i (writeBuf x b (setStream i (withArrived (s.stream i)) s)) =
            writeBuf x b (setStream i (withArrived (s.stream i)) s) := by
          unfold supersedeHead
          rw [hentry, hqueue, hq]
        rw [hsame, handedToStream_of_empty hroom hp hq, raiseFor_admitRecord_writeBuf, hset, admittedTo_setStream,
          frameIn_setStream, hqueue, hq]
      | cons r q =>
        have hr : ((setStream i (withArrived (s.stream i)) s).stream i).queue = r :: q := by rw [hset, hqueue, hq]
        have hne : r.buffer ≠ x := h r (by rw [hq]; exact List.mem_cons_self)
        rw [supersedeHead_writeBuf hr hne, raiseFor_admitRecord_writeBuf, setStream_stream_self, hset, freed_setStream,
          report_setStream, admittedTo_setStream, admittedTo_setStream, handedToStream_of_replace hroom hp hq,
          frameIn_setStream, frameIn_setStream, frameIn_report, frameIn_freed_of_ne hne]
        rfl
    | keep =>
      dsimp only
      unfold refuseFrame
      rw [freeBuf_writeBuf, handedToStream_of_keep hroom hp, freed_setStream, countStream_setStream]
      rfl

/-- Settles O10, by the recheck: an entry that still matches is handed the frame, else the unmatched policy decides. -/
theorem matchedFrameAdmitted : Obligations.MatchedFrameAdmitted := by
  intro s p b i x hgood hr hx hheld
  dsimp only
  have hdeliver : ∀ t, deliver (s.port p).rx t = recheck i (tagOf (s.port p).rx.header) x t := fun t => by
    unfold deliver; rw [hr, hx]
  rw [exec_frameEnd_of_goodEnd hgood hr Route.noConfusion,
    writeByte_buffer (count_lt_of_goodEnd hgood) hx (.inr (.inr ⟨i, hr⟩)), hdeliver]
  have hentry : (writeBuf x b (goodAt p s)).stream i = s.stream i := goodAt_stream p s i
  unfold recheck
  rw [hentry]
  refine ⟨fun hv ht => ?_, fun hno => ?_⟩
  · rw [if_pos (by simp [hv, ht]), admitFrame_writeBuf (by simpa using hheld), frameIn_goodAt]
  · have hmiss : ¬ ((s.stream i).valid && (s.stream i).tag == tagOf (s.port p).rx.header) = true := by
      rcases hno with hv | ht
      · simp [hv]
      · simp [ht]
    have hpolicy : (writeBuf x b (goodAt p s)).mgmt = s.mgmt := goodAt_mgmt p s
    rw [if_neg hmiss, hpolicy, passAppend_writeBuf, freeBuf_writeBuf, frameIn_goodAt]
    cases s.mgmt.unmatched <;> rfl

/-! ### The capture record and the mark store (R11, R29, R60, R61) -/

/-- The number of a MARK, most significant byte first (R11, R144). -/
theorem markNumber_eq (h0 h1 h2 n3 n2 n1 n0 k b : Byte) :
    natBE (payloadOf ([h0, h1, h2, 4, n3, n2, n1, n0, k] ++ [b])) = word4 n3 n2 n1 n0 := by
  simp [payloadOf, lenOf, byteAt, natBE, word4]

/-- The mark store holds the frame, and counts the unsent one it replaces (R29). -/
theorem storeMark_eq (m : FrameBytes) (s : State) :
    storeMark m s =
      { s with
        stores :=
          { s.stores with
            mark := some m
            counters :=
              if s.stores.mark.isSome then
                { s.stores.counters with marksReplaced := s.stores.counters.marksReplaced + 1 }
              else s.stores.counters } } := by
  unfold storeMark
  dsimp only
  cases s.stores.mark.isSome <;> rfl

/-- The sync unit with a MARK numbered `n` in its capture record (R60, R61). -/
def withCapture (n : Cycle) (s : State) : State :=
  { s with
    sync :=
      { s.sync with
        capture :=
          some
            { offset := s.timer.offset, localCycle := s.timer.cycle, markNumber := n, double := s.sync.capture.isSome }
        counters :=
          { s.sync.counters with
            marksCaptured := s.sync.counters.marksCaptured + 1
            doubleMarks :=
              if s.sync.capture.isSome then s.sync.counters.doubleMarks + 1 else s.sync.counters.doubleMarks } } }

/-- A second MARK of a cycle is counted and reported (R61). -/
theorem captureMark_eq (n : Cycle) (s : State) :
    captureMark n s =
      if s.sync.capture.isSome then report .doubleMark (withCapture n s) else withCapture n s := by
  unfold captureMark withCapture
  dsimp only
  cases s.sync.capture.isSome <;> rfl

/-- The sync unit and the mark store take a good MARK in one event (R11). -/
theorem deliverMark_eq (m : FrameBytes) (s : State) :
    deliverMark { s with markArea := m } = markTaken m (BitVec.ofNat 32 (natBE (payloadOf m))) s := by
  have hstore : ∀ o t, storeMark m (report o t) = report o (storeMark m t) := fun o t =>
    report_comm (f := storeMark m) o (fun n => by simp only [storeMark_eq]) (by rw [storeMark_eq])
      (by rw [storeMark_eq])
  unfold deliverMark markTaken
  dsimp only
  rw [captureMark_eq]
  unfold withCapture
  dsimp only
  cases s.sync.capture.isSome
  · simp only [Bool.false_eq_true, if_false, storeMark_eq]
  · simp only [if_true, hstore, storeMark_eq]

/-- Settles O11: the mark store may act before or after the report of a second MARK. -/
theorem markCaptured : Obligations.MarkCaptured := by
  intro s p b h0 h1 h2 n3 n2 n1 n0 k hgood hr hx hheader harea
  have hw : writeByte (s.port p).rx b (goodAt p s) = { goodAt p s with markArea := s.markArea ++ [b] } := by
    unfold writeByte
    rw [if_pos (count_lt_of_goodEnd hgood), hr, hx]
    simp
  rw [exec_frameEnd_of_goodEnd hgood hr (by decide), hw]
  unfold deliver
  rw [hr]
  dsimp only
  rw [deliverMark_eq, harea, markNumber_eq]

/-! ### The management input queue (R12, R127) -/

/-- A request is offered with all its bytes in the management area. -/
theorem offerRequest_eq (f : FrameBytes) (s : State) :
    offerRequest { s with mgmtArea := f } = requestOffered f s := by
  unfold offerRequest requestOffered
  rfl

theorem offerRequest_writeBuf (x : BufId) (b : Byte) (s : State) :
    offerRequest (writeBuf x b s) = writeBuf x b (offerRequest s) := by
  unfold offerRequest
  dsimp only
  split
  · rw [if_pos ‹_›]; rfl
  · rw [if_neg ‹_›, ← report_writeBuf]; rfl

theorem frameIn_requestOffered (f : FrameBytes) (s : State) (x : BufId) (b : Byte) :
    frameIn (requestOffered f s) x b = frameIn s x b := by
  unfold requestOffered
  split
  · rfl
  · rw [frameIn_report]; rfl

/-- Settles O12: the request is offered, and the copy of a broadcast one is then in the buffer it was granted. -/
theorem requestQueued : Obligations.RequestQueued := by
  intro s p b hgood
  dsimp only
  refine ⟨fun hr hx => ?_, fun x hr hx => ?_⟩
  · have hw : writeByte (s.port p).rx b (goodAt p s) = { goodAt p s with mgmtArea := s.mgmtArea ++ [b] } := by
      unfold writeByte
      rcases hr with hr | hr <;> rw [if_pos (count_lt_of_goodEnd hgood), hr, hx] <;> simp
    have hend : deliver (s.port p).rx { goodAt p s with mgmtArea := s.mgmtArea ++ [b] } =
        requestOffered (s.mgmtArea ++ [b]) (goodAt p s) := by
      rw [← offerRequest_eq]
      unfold deliver
      rcases hr with hr | hr <;> rw [hr, hx]
    rcases hr with hr | hr <;> rw [exec_frameEnd_of_goodEnd hgood hr (by decide), hw, hend]
  · have hw : writeByte (s.port p).rx b (goodAt p s) =
        writeBuf x b { goodAt p s with mgmtArea := s.mgmtArea ++ [b] } := by
      unfold writeByte
      rw [if_pos (count_lt_of_goodEnd hgood), hr, hx]
      simp
    rw [exec_frameEnd_of_goodEnd hgood hr (by decide), hw]
    unfold deliver
    rw [hr, hx]
    dsimp only
    rw [offerRequest_writeBuf, offerRequest_eq, passAppend_writeBuf, frameIn_requestOffered, frameIn_goodAt]

end Sys2Proof.Link
end

section
/-! PROOF. The decisions of the two transmitter arbiters, the NOTE frame's layout, and the settling of the obligations
on the arbiters (R14, R26, R28, R30, R31, R43, R89, R99, R132, R146, R158). -/

namespace Sys2Proof.Link

open Sys2Proof.Machine Sys2Proof.Safety Sys2Proof.Claims

/-! ### A frame begins (R14, R20) -/

theorem begun_eq {σ : Type} (src : σ) (bytes : FrameBytes) :
    begun src bytes = some { source := src, bytes := bytes, remaining := occupancy (lenOf bytes) } := by
  have h : 32 + 4 * lenOf bytes = occupancy (lenOf bytes) := by unfold occupancy; omega
  rw [begun, h]

theorem startU_eq (src : SourceU) (bytes : FrameBytes) (s : State) :
    startU src bytes s = { s with txU := begun src bytes } := by rw [begun_eq]; rfl

theorem startD_eq (src : SourceD) (bytes : FrameBytes) (s : State) :
    startD src bytes s = { s with txD := begun src bytes } := by rw [begun_eq]; rfl

/-- A buffer that is read out keeps its frame. -/
theorem bufBytes_markBuf (x : BufId) (st : BufState) (s : State) : bufBytes (markBuf x st s) x = s.pool[x].bytes := by
  simp [bufBytes, markBuf, setBuf]

/-! ### The NOTE frame (R146, R158) -/

theorem bytesBE_two (n : Nat) : bytesBE 2 n = be2 n := by
  simp [bytesBE, be2]

theorem bytesBE_four (n : Nat) : bytesBE 4 n = be4 n := by
  simp [bytesBE, be4, Nat.div_div_eq_div_mul]

theorem syncMode_code (m : SyncMode) : m.code = syncCode m := by cases m <;> rfl

/-- The payload of a note, kind by kind, as R146 lays it out. -/
theorem notePayload_eq (r : NoteRecord) :
    notePayload r = notePayloadOf (r.seq.getD 0) r.count r.first r.last r.occ := by
  unfold notePayload
  simp only [bytesBE_four]
  cases r.occ with
  | linkChange p l => cases p <;> cases l <;> rfl
  | started cause => cases cause <;> rfl
  | _ =>
    simp [Occurrence.kind, Occurrence.coalesces, Occurrence.stream, Occurrence.data, notePayloadOf, bytesBE_two,
      bytesBE_four, syncMode_code]

/-- A node address has no bits in the high part of TAG, so that the second byte of a NOTE frame is its KIND. -/
theorem noteKind_byte (node : NodeAddr) :
    kindNote ++ ((0 : BitVec 3) ++ (node.zeroExtend 10).extractLsb' 8 2) = (0xA0 : Byte) := by
  have hhigh : (node.zeroExtend 10).extractLsb' 8 2 = 0 := by
    apply BitVec.eq_of_toNat_eq
    have := node.isLt
    simp [Nat.shiftRight_eq_div_pow]
    omega
  rw [hhigh]
  rfl

theorem noteTag_byte (node : NodeAddr) : (node.zeroExtend 10).extractLsb' 0 8 = BitVec.ofNat 8 node.toNat := by
  apply BitVec.eq_of_toNat_eq
  simp

theorem noteFrame_eq (node : NodeAddr) (r : NoteRecord) : noteFrame node r = noteBytes node r := by
  have hbody : frameBody 0 kindNote (node.zeroExtend 10) (notePayload r) =
      [0, 0xA0, BitVec.ofNat 8 node.toNat, BitVec.ofNat 8 (notePayload r).length] ++ notePayload r := by
    unfold frameBody
    rw [noteKind_byte, noteTag_byte]
    rfl
  unfold noteFrame mkFrame noteBytes
  dsimp only
  rw [hbody, bytesBE_two, notePayload_eq]

/-! ### The U transmitter arbiter (R31) -/

theorem sentRecord_eq (n : Notes) (r : NoteRecord) : sentRecord n r = noteSent n r := by
  unfold sentRecord noteSent; cases r.seq <;> rfl

section ArbiterU

variable {s : State} (hidle : s.txU = none) (hup : s.portU.link = .up)
include hidle hup

theorem arbiterU_of_no_back (h : s.stores.back = []) : arbiterU s = grantPart s := by
  unfold arbiterU; rw [hidle, if_pos hup, h]

theorem arbiterU_of_part (hw : partWaits s = true) (hl : s.stores.lastSource = .back) : arbiterU s = grantPart s := by
  unfold arbiterU
  rw [hidle, if_pos hup]
  cases s.stores.back with
  | nil => rfl
  | cons x q => exact if_pos (by simp [hw, hl])

theorem arbiterU_of_back {x : BufId} {q : List BufId} (h : s.stores.back = x :: q)
    (hl : s.stores.lastSource = .part ∨ partWaits s = false) : arbiterU s = grantBack x q s := by
  unfold arbiterU
  rw [hidle, if_pos hup, h]
  refine if_neg ?_
  rcases hl with hl | hl <;> simp [hl]

end ArbiterU

theorem partWaits_eq_false {s : State} (ho : s.mgmt.outbox = []) (hn : noteOffered s.notes = none) :
    partWaits s = false := by simp [partWaits, ho, hn]

theorem noteOffered_of_waiting {n : Notes} {r : NoteRecord} {q : List NoteRecord} (hq : n.queue = r :: q)
    (hw : r.state = .waiting) : noteOffered n = some r := by
  unfold noteOffered; rw [hq]; exact if_pos hw

theorem grantBack_eq (x : BufId) (q : List BufId) (s : State) :
    grantBack x q s =
      { s with
        txU := begun (.back x) s.pool[x].bytes
        pool := sendingFrom s x
        stores := { s.stores with back := q, lastSource := .back } } := by
  unfold grantBack
  dsimp only
  rw [startU_eq, bufBytes_markBuf]
  rfl

theorem grantNote_eq {s : State} {r : NoteRecord} {q : List NoteRecord} (hq : s.notes.queue = r :: q) :
    grantNote r s =
      { s with
        txU := begun .note (noteBytes s.nodeAddr (noteSent s.notes r))
        stores := { s.stores with lastSource := .part }
        notes :=
          { s.notes with
            queue := noteSent s.notes r :: q
            nextSeq := if r.seq = none then s.notes.nextSeq + 1 else s.notes.nextSeq
            counters :=
              if r.attempts = 0 then { s.notes.counters with notesSent := s.notes.counters.notesSent + 1 }
              else { s.notes.counters with notesResent := s.notes.counters.notesResent + 1 } } } := by
  unfold grantNote notesGranted
  rw [startU_eq, noteFrame_eq, sentRecord_eq, hq]
  cases r.seq <;> rfl

/-- Settles O13, by the class granted: the return head, a reply, a note, or none. -/
theorem arbiterUAlternates : Obligations.ArbiterUAlternates := by
  refine ⟨fun s h => arbiterU_of_busy h, fun s hidle hup => ⟨fun x q hback hclass => ?_, fun hclass => ⟨?_, ?_⟩, ?_⟩⟩
  · have hl : s.stores.lastSource = .part ∨ partWaits s = false :=
      hclass.imp_right fun ⟨ho, hn⟩ => partWaits_eq_false ho hn
    rw [arbiterU_of_back hidle hup hback hl, grantBack_eq]
  · intro r q ho
    have hw : partWaits s = true := by simp [partWaits, ho]
    have hgrant : arbiterU s = grantPart s :=
      hclass.elim (arbiterU_of_no_back hidle hup) (arbiterU_of_part hidle hup hw)
    rw [hgrant]
    unfold grantPart grantReply
    rw [ho]
    exact startU_eq _ _ _
  · intro r q ho hq hstate
    have hn := noteOffered_of_waiting hq hstate
    have hw : partWaits s = true := by simp [partWaits, hn]
    have hgrant : arbiterU s = grantPart s :=
      hclass.elim (arbiterU_of_no_back hidle hup) (arbiterU_of_part hidle hup hw)
    rw [hgrant]
    unfold grantPart
    rw [ho, hn]
    exact grantNote_eq hq
  · intro hback ho hn
    rw [arbiterU_of_no_back hidle hup hback]
    unfold grantPart
    rw [ho, hn]

/-! ### The D transmitter arbiter (R99) -/

section ArbiterD

variable {s : State} (hidle : s.txD = none) (hup : s.portD.link = .up)
include hidle hup

theorem arbiterD_of_mark {m : FrameBytes} (h : s.stores.mark = some m) : arbiterD s = grantMark m s := by
  unfold arbiterD; rw [hidle, if_pos hup, h]

theorem arbiterD_of_no_mark (h : s.stores.mark = none) : arbiterD s = tryRelease s := by
  unfold arbiterD; rw [hidle, if_pos hup, h]

end ArbiterD

theorem tryRelease_of_request {s : State} {w : Window} {h : Held} {q : List Held} (hr : s.engine.request = true)
    (hw : s.engine.window = some w) (hq : (s.stream w.stream).queue = h :: q) :
    tryRelease s = grantRelease w h q s := by
  unfold tryRelease; rw [hr, hw]; dsimp only; rw [hq]

theorem tryRelease_of_no_request {s : State} (hr : s.engine.request = false) : tryRelease s = tryPass s := by
  unfold tryRelease; rw [hr]

theorem grantRelease_eq (w : Window) (h : Held) (q : List Held) (s : State) :
    grantRelease w h q s =
      { s with
        txD := begun (.release h.buffer (some w.stream)) s.pool[h.buffer].bytes
        pool := sendingFrom s h.buffer
        streams := s.streams.set w.stream { s.stream w.stream with queue := q }
        engine := { s.engine with request := false, window := some (windowGranted w) } } := by
  unfold grantRelease
  dsimp only
  rw [startD_eq]
  have hbytes : bufBytes (setRequest false (setWindow (some (windowGranted w))
      (setQueue w.stream q (markBuf h.buffer .sending s)))) h.buffer = s.pool[h.buffer].bytes :=
    bufBytes_markBuf h.buffer .sending s
  rw [hbytes]
  rfl

theorem grantPass_eq (x : BufId) (q : List BufId) (s : State) :
    grantPass x q s =
      { s with
        txD := begun (.pass x) s.pool[x].bytes
        pool := sendingFrom s x
        stores := { s.stores with pass := q } } := by
  unfold grantPass
  dsimp only
  rw [startD_eq, bufBytes_markBuf]
  rfl

/-- Settles O14, in the order of the candidates of R99. -/
theorem arbiterDPriority : Obligations.ArbiterDPriority := by
  refine ⟨fun s h => arbiterD_of_busy h, fun s hidle hup => ⟨fun m hm => ?_, fun w h q hm hr hw hq => ?_,
    fun x q hm hr hpass => ?_, fun hm hr hpass => ?_⟩⟩
  · rw [arbiterD_of_mark hidle hup hm, grantMark, startD_eq]
  · rw [arbiterD_of_no_mark hidle hup hm, tryRelease_of_request hr hw hq, grantRelease_eq]
    rfl
  · rw [arbiterD_of_no_mark hidle hup hm, tryRelease_of_no_request hr, tryPass, hpass, ← grantPass_eq]
    rfl
  · rw [arbiterD_of_no_mark hidle hup hm, tryRelease_of_no_request hr, tryPass, hpass]

end Sys2Proof.Link
end

section
/-! PROOF. The completions on both ports, and the settling of the obligations on them (R14, R26, R28, R30, R33, R43,
R88, R90, R128, R133, R159). -/

namespace Sys2Proof.Link

open Sys2Proof.Machine Sys2Proof.Safety Sys2Proof.Claims

/-! ### A completion is taken when it is due (R14) -/

theorem exec_transmissionComplete {s : State} (hrun : s.power = .running) {p : Port} (h : endsWithWrap p s = false) :
    exec (.transmissionComplete p) s = .next (finishPort p s) := by
  show Host.Outcome.next (if s.power = .running then if endsWithWrap p s then _ else finishPort p s else s) = _
  rw [if_pos hrun, h]
  rfl

theorem endsWithWrap_of_due {p : Port} {s : State} (h : ticksLeft p s = some 0) : endsWithWrap p s = false := by
  simp [endsWithWrap, h]

theorem finishD_of_due {s : State} {t : Transmission SourceD} (ht : s.txD = some t) (h0 : t.remaining = 0) :
    finishD s = conclude s (completeD t s) := by
  unfold finishD; rw [ht]; exact if_pos h0

theorem finishU_of_due {s : State} {t : Transmission SourceU} (ht : s.txU = some t) (h0 : t.remaining = 0) :
    finishU s = conclude s (completeU t s) := by
  unfold finishU; rw [ht]; exact if_pos h0

/-- A port D transmitter that becomes IDLE invokes its own arbiter alone (R100). -/
theorem conclude_of_idleD {before after : State} (hbusy : before.txD.isSome = true) (hidle : after.txD = none)
    (h : arbiterViewU after = arbiterViewU before) : conclude before after = arbiterD after := by
  have hD : invokesD before after = true := by simp [invokesD, hbusy, hidle]
  simp [conclude, hD, invokesU_of_view_eq h]

/-- A port U transmitter that becomes IDLE invokes its own arbiter alone (R32). -/
theorem conclude_of_idleU {before after : State} (hbusy : before.txU.isSome = true) (hidle : after.txU = none)
    (h : arbiterViewD after = arbiterViewD before) : conclude before after = arbiterU after := by
  have hU : invokesU before after = true := by simp [invokesU, hbusy, hidle]
  simp [conclude, hU, invokesD_of_view_eq h]

/-! ### Port D (R26, R30, R43, R90) -/

/-- A window stands OPEN and its stream holds frames (R88). -/
def windowReady (s : State) : Bool :=
  match s.engine.window with
  | some w => decide (w.phase = .opened) && decide ((s.stream w.stream).queue ≠ [])
  | none => false

/-- The window on which no release is on the line any more (R90). -/
def windowOffLine (s : State) : Option Window := s.engine.window.map fun w => { w with onLine := false }

/-- Once no release is on the line, a request stands after the test if it stood, or if the window is ready for one. -/
theorem raiseRequest_offLine (s : State) :
    raiseRequest { s with engine := { s.engine with window := windowOffLine s } } =
      { s with
        engine := { s.engine with window := windowOffLine s, request := s.engine.request || windowReady s } } := by
  have hrequest : (s.engine.request || requestWanted { s with engine := { s.engine with window := windowOffLine s } }) =
      (s.engine.request || windowReady s) := by
    unfold requestWanted windowReady windowOffLine
    cases s.engine.window with
    | none => rfl
    | some w =>
      show (s.engine.request ||
        (w.phase == .opened && !(s.stream w.stream).queue.isEmpty && !s.engine.request && !false)) = _
      cases s.engine.request <;> cases hq : (s.stream w.stream).queue <;> simp [hq, beq_eq_decide]
  rw [raiseRequest_eq, raiseRequest_request]
  exact congrArg (fun r => { s with engine := { s.engine with window := windowOffLine s, request := r } }) hrequest

/-- Counting and freeing leave the window as ready as it was. -/
theorem windowReady_countStream (i : StreamId) (f : StreamCounters → StreamCounters) (s : State) :
    windowReady (countStream i f s) = windowReady s := by
  have hqueue : ∀ j, ((countStream i f s).stream j).queue = (s.stream j).queue := fun j => by
    rw [countStream_eq, setStream_stream]
    split
    · next h => rw [h]
    · rfl
  unfold windowReady
  simp only [hqueue]
  rfl

theorem completeD_eq (t : Transmission SourceD) (s : State) : completeD t s = completedD t.source s := by
  unfold completeD
  cases t.source with
  | mark => rfl
  | pass x => rfl
  | release x attached =>
    cases attached with
    | none => exact raiseRequest_offLine _
    | some i =>
      refine (raiseRequest_offLine _).trans ?_
      rw [windowReady_countStream]
      rfl

theorem arbiterViewU_completedD (src : SourceD) (s : State) : arbiterViewU (completedD src s) = arbiterViewU s := by
  cases src <;> rfl

/-- Settles O16: the completion idles the transmitter, which invokes its own arbiter and not the other. -/
theorem completionOnPortD : Obligations.CompletionOnPortD := by
  intro s t hrun ht h0
  have hleft : ticksLeft .d s = some 0 := by simp [ticksLeft, ht, h0]
  have hidle : (completedD t.source s).txD = none := by cases t.source <;> rfl
  rw [exec_transmissionComplete hrun (endsWithWrap_of_due hleft)]
  show Host.Outcome.next (finishD s) = _
  rw [finishD_of_due ht h0, completeD_eq, conclude_of_idleD (by simp [ht]) hidle (arbiterViewU_completedD _ _)]

/-! ### Port U (R28, R33, R128, R133, R159) -/

/-- An outbox entry is freed: the next part takes the room, and a STALLED unit is READY again where there is room and no
part waits (R33, R128, R133). -/
theorem replyFreed_eq (m : Mgmt) : replyFreed m = outboxFreed m := by
  obtain ⟨mode, input, outbox, parts, cache, unmatched, guardMargin, counters⟩ := m
  cases mode with
  | ready => cases parts <;> simp [replyFreed, outboxFreed]
  | restarting => cases parts <;> simp [replyFreed, outboxFreed]
  | stalled =>
    cases parts with
    | nil =>
      by_cases hroom : outbox.length ≤ 2
      · have hbusy : ¬ 2 ≤ outbox.length - 1 := by omega
        simp [replyFreed, outboxFreed, unitByRoom, Config.outboxCapacity, hroom, hbusy]
      · have hbusy : 2 ≤ outbox.length - 1 := by omega
        simp [replyFreed, outboxFreed, unitByRoom, Config.outboxCapacity, hroom, hbusy]
    | cons r rs =>
      by_cases hroom : outbox.length - 1 = 0
      · cases rs <;> simp [replyFreed, outboxFreed, unitByRoom, Config.outboxCapacity, hroom]
      · have hbusy : 1 ≤ outbox.length - 1 := Nat.one_le_iff_ne_zero.2 hroom
        simp [replyFreed, outboxFreed, unitByRoom, Config.outboxCapacity, hroom, hbusy]

theorem noteCompleted_of_empty {n : Notes} (h : n.queue = []) : noteCompleted n = { n with queue := [] } := by
  unfold noteCompleted
  rw [h]
  exact congrArg (fun q => { n with queue := q }) h

/-- The head whose transmission completed awaits its acknowledgement; any other stays as it is (R159). -/
theorem noteCompleted_of_head {n : Notes} {r : NoteRecord} {q : List NoteRecord} (h : n.queue = r :: q) :
    noteCompleted n =
      { n with queue := (if r.state = .sending then { r with state := .awaitingAck, wait := 0 } else r) :: q } := by
  unfold noteCompleted
  rw [h]
  dsimp only
  split
  · rfl
  · exact congrArg (fun q => { n with queue := q }) h

theorem completeU_eq {t : Transmission SourceU} {s : State}
    (h : t.source = .reply → ∃ r q, s.mgmt.outbox = r :: q ∧ r.ofRestart = false) :
    completeU t s = completedU t.source s := by
  unfold completeU
  cases hs : t.source with
  | back x => rfl
  | note =>
    have hnotes : noteCompleted s.notes = (completedU .note s).notes := by
      unfold completedU
      dsimp only
      cases hq : s.notes.queue with
      | nil => exact noteCompleted_of_empty hq
      | cons r q => exact noteCompleted_of_head hq
    show ({ completedU .note s with notes := noteCompleted s.notes } : State) = _
    rw [hnotes]
  | reply =>
    obtain ⟨r, q, ho, hr⟩ := h hs
    have hreply : ∀ u : State, u.mgmt = s.mgmt → replyCompleted u = { u with mgmt := replyFreed s.mgmt } := by
      intro u hu
      unfold replyCompleted
      rw [hu, ho]
      simp [hr]
    unfold completedU
    dsimp only
    rw [← replyFreed_eq]
    exact hreply _ rfl

theorem arbiterViewD_completedU (src : SourceU) (s : State) : arbiterViewD (completedU src s) = arbiterViewD s := by
  cases src <;> rfl

/-- Settles O17: the completion idles the transmitter, which invokes its own arbiter and not the other. -/
theorem completionOnPortU : Obligations.CompletionOnPortU := by
  intro s t hrun ht h0 hreply
  have hleft : ticksLeft .u s = some 0 := by simp [ticksLeft, ht, h0]
  have hidle : (completedU t.source s).txU = none := by cases t.source <;> rfl
  rw [exec_transmissionComplete hrun (endsWithWrap_of_due hleft)]
  show Host.Outcome.next (finishU s) = _
  rw [finishU_of_due ht h0, completeU_eq hreply, conclude_of_idleU (by simp [ht]) hidle (arbiterViewD_completedU _ _)]

end Sys2Proof.Link
end

section
/-! PROOF. What the requests and the release engine leave unchanged, and what comes before a tick (R14, R55, R87,
R129): power, the cycle timer and the input queue. -/

namespace Sys2Proof.Link

open Sys2Proof.Machine Sys2Proof.Safety Sys2Proof.Claims

/-! ### What the release engine changes (R84 to R98) -/

theorem gateEnds_eq (before after : State) :
    gateEnds before after =
      { after with
        win := (gateEnds before after).win
        engine := (gateEnds before after).engine
        plan := (gateEnds before after).plan } := by
  rcases gateEnds_cases before after with ⟨-, -, h⟩ | ⟨-, h⟩
  · rw [h]
    rcases endWindow_eq after with ⟨-, he⟩ | ⟨w, -, he⟩ <;> rw [he]
  · rw [h]

theorem reportSync_eq (old : SyncMode) (s : State) :
    reportSync old s = { s with notes := (reportSync old s).notes } := by
  unfold reportSync
  split
  · rfl
  · rw [report_eq]

theorem missedCheck_eq (s : State) :
    missedCheck s = { s with streams := (missedCheck s).streams, notes := (missedCheck s).notes } := by
  unfold missedCheck
  split
  · split
    · rw [report_eq]; rfl
    · rfl
  · rfl

/-- The end of an event of the release engine changes WIN, the window, the plan, the stream counters and the note unit
at most. -/
theorem closeWindow_eq (s : State) :
    closeWindow s =
      { s with
        win := (closeWindow s).win
        engine := (closeWindow s).engine
        plan := (closeWindow s).plan
        streams := (closeWindow s).streams
        notes := (closeWindow s).notes } := by
  unfold closeWindow
  rcases endWindow_eq (missedCheck s) with ⟨-, he⟩ | ⟨w, -, he⟩ <;> rw [he, missedCheck_eq]

theorem openWindow_eq (pos : Nat) (x : Slot) (s : State) :
    openWindow pos x s =
      { s with
        win := (openWindow pos x s).win
        engine := (openWindow pos x s).engine
        plan := (openWindow pos x s).plan } := by
  unfold openWindow
  dsimp only
  rw [raiseRequest_eq]
  rfl

theorem takeSlot_eq (s : State) :
    takeSlot s =
      { s with
        win := (takeSlot s).win
        engine := (takeSlot s).engine
        plan := (takeSlot s).plan } := by
  unfold takeSlot
  split
  · dsimp only
    split
    · split
      · rw [openWindow_eq]
      · rfl
    · rfl
  · rfl

theorem engineEvent_eq (s : State) :
    engineEvent s =
      { s with
        win := (engineEvent s).win
        engine := (engineEvent s).engine
        plan := (engineEvent s).plan
        streams := (engineEvent s).streams
        notes := (engineEvent s).notes } := by
  unfold engineEvent
  dsimp only
  split
  · split
    · rw [takeSlot_eq, closeWindow_eq]
    · rw [closeWindow_eq]
  · split
    · rw [takeSlot_eq]
    · rfl

theorem purgeQueue_eq (i : StreamId) (s : State) :
    purgeQueue i s =
      { s with
        pool := (purgeQueue i s).pool
        streams := (purgeQueue i s).streams
        engine := (purgeQueue i s).engine } := by
  unfold purgeQueue
  dsimp only
  rw [withdrawIfEmpty_eq, freeBufs_eq]
  rfl

/-! ### What a request's owner leaves (R129) -/

/-- Power, the cycle timer and the input queue. -/
def clockView (s : State) := (s.power, s.timer, s.mgmt.input)

theorem clockView_report (o : Occurrence) (s : State) : clockView (report o s) = clockView s := by
  rw [report_eq]; rfl

theorem clockView_gateEnds (before after : State) : clockView (gateEnds before after) = clockView after := by
  rw [gateEnds_eq]; rfl

theorem clockView_conclude (before after : State) : clockView (conclude before after) = clockView after := by
  rw [conclude_eq]; rfl

/-- A rule that owns a request leaves power, the cycle timer and the input queue as they are. -/
def KeepsClock (owner : List Byte → State → Answer) : Prop := ∀ a s, clockView (owner a s).state = clockView s

theorem clockView_editing {s : State} {a : Answer} (h : clockView a.state = clockView s) :
    clockView (editing s a).state = clockView s := by
  unfold editing; split
  · rfl
  · exact h

theorem identOwner_keepsClock : KeepsClock identOwner := fun _ _ => rfl

theorem streamWriteOwner_keepsClock : KeepsClock streamWriteOwner := by
  intro a s
  unfold streamWriteOwner
  split
  · repeat' split
    all_goals rfl
  · rfl

theorem streamDeleteOwner_keepsClock : KeepsClock streamDeleteOwner := by
  intro a s
  unfold streamDeleteOwner
  split
  · split
    · rfl
    · split
      · rfl
      · split
        · rfl
        · show clockView (deleteStream _ s) = _
          unfold deleteStream
          dsimp only
          rw [detach_eq, purgeQueue_eq]
          rfl
  · rfl

theorem streamLockOwner_keepsClock : KeepsClock streamLockOwner := by
  intro a s
  unfold streamLockOwner
  split
  · split <;> rfl
  · rfl

theorem streamReadOwner_keepsClock : KeepsClock streamReadOwner := by
  intro a s
  unfold streamReadOwner
  split
  · split <;> rfl
  · rfl

theorem streamPurgeOwner_keepsClock : KeepsClock streamPurgeOwner := by
  intro a s
  unfold streamPurgeOwner
  split
  · split
    · rfl
    · show clockView (purgeQueue _ s) = _
      rw [purgeQueue_eq]
      rfl
  · rfl

theorem slotAddOwner_keepsClock : KeepsClock slotAddOwner := by
  intro a s
  unfold slotAddOwner
  split
  · refine clockView_editing ?_
    repeat' split
    all_goals rfl
  · rfl

theorem slotDropOwner_keepsClock : KeepsClock slotDropOwner := by
  intro a s
  unfold slotDropOwner
  split
  · rfl
  · refine clockView_editing ?_
    split <;> rfl

theorem slotReadOwner_keepsClock : KeepsClock slotReadOwner := by
  intro a s
  unfold slotReadOwner
  split
  · rfl
  · split <;> rfl

theorem stageEmptyOwner_keepsClock : KeepsClock stageEmptyOwner := fun _ _ => clockView_editing rfl

theorem stageFromActiveOwner_keepsClock : KeepsClock stageFromActiveOwner := fun _ _ => clockView_editing rfl

theorem cycleStageOwner_keepsClock : KeepsClock cycleStageOwner := by
  intro a s
  unfold cycleStageOwner
  split
  · rfl
  · exact clockView_editing rfl

theorem switchOwner_keepsClock : KeepsClock switchOwner := by
  intro a s
  unfold switchOwner
  split
  · split
    · rfl
    · rfl
    · rfl
    · split <;> rfl
  · rfl

theorem withdrawOwner_keepsClock : KeepsClock withdrawOwner := by
  intro a s
  unfold withdrawOwner
  split <;> rfl

theorem holdOwner_keepsClock : KeepsClock holdOwner := by
  intro a s
  unfold holdOwner
  split
  · rfl
  · split
    · rfl
    · exact clockView_gateEnds s _

theorem resumeOwner_keepsClock : KeepsClock resumeOwner := by
  intro a s
  unfold resumeOwner
  split <;> rfl

theorem syncConfigOwner_keepsClock : KeepsClock syncConfigOwner := by
  intro a s
  unfold syncConfigOwner
  split
  · split
    · rfl
    · split
      · rfl
      · refine (clockView_gateEnds s _).trans ?_
        rw [reportSync_eq]
        rfl
  · rfl

theorem syncReadOwner_keepsClock : KeepsClock syncReadOwner := fun _ _ => rfl

theorem traceReadOwner_keepsClock : KeepsClock traceReadOwner := by
  intro a s
  unfold traceReadOwner
  split <;> rfl

theorem clockView_zeroGroup (g : Group) (s : State) : clockView (zeroGroup g s) = clockView s := by
  cases g with
  | port p => cases p <;> rfl
  | _ => rfl

theorem countReadOwner_keepsClock : KeepsClock countReadOwner := by
  intro a s
  unfold countReadOwner
  split
  · split
    · exact clockView_zeroGroup _ s
    · rfl
  · rfl

theorem noteAckOwner_keepsClock : KeepsClock noteAckOwner := by
  intro a s
  unfold noteAckOwner
  dsimp only
  split <;> rfl

theorem noteConfigOwner_keepsClock : KeepsClock noteConfigOwner := by
  intro a s
  unfold noteConfigOwner
  split <;> rfl

theorem passConfigOwner_keepsClock : KeepsClock passConfigOwner := by
  intro a s
  unfold passConfigOwner
  split
  · split <;> rfl
  · rfl

/-! ### A request taken (R129) -/

/-- The run of a request's step leaves power, the cycle timer and the input queue as the taking left them. -/
def RunKeepsClock (run : FrameBytes → State → State) : Prop := ∀ f s, clockView (run f s) = clockView s

theorem runOp_keepsClock (o : Op) {owner : List Byte → State → Answer} (h : KeepsClock owner) :
    RunKeepsClock (runOp o owner) := by
  intro f s
  have hchecked : clockView (checked o owner f s).state = clockView s := by
    unfold checked
    split
    · exact h _ s
    · rfl
  unfold runOp
  split
  · unfold answerBroadcast
    dsimp only
    split
    · exact hchecked
    · exact (clockView_report _ _).trans hchecked
  · exact hchecked

theorem runRestart_keepsClock : RunKeepsClock runRestart := by
  intro f s
  unfold runRestart
  split <;> rfl

theorem replayRequest_keepsClock : RunKeepsClock (fun _ s => replayRequest s) := by
  intro f s
  unfold replayRequest
  dsimp only
  split <;> rfl

/-- Each step of a request is a taking whose run leaves the clock and the input queue. -/
theorem takeOp_keepsClock (o : Op) (s : State) :
    ∃ run, takeOp o s = takeRequest (.op o) run s ∧ RunKeepsClock run := by
  cases o with
  | ident => exact ⟨_, rfl, runOp_keepsClock _ identOwner_keepsClock⟩
  | streamWrite => exact ⟨_, rfl, runOp_keepsClock _ streamWriteOwner_keepsClock⟩
  | streamDelete => exact ⟨_, rfl, runOp_keepsClock _ streamDeleteOwner_keepsClock⟩
  | streamLock => exact ⟨_, rfl, runOp_keepsClock _ streamLockOwner_keepsClock⟩
  | streamRead => exact ⟨_, rfl, runOp_keepsClock _ streamReadOwner_keepsClock⟩
  | streamPurge => exact ⟨_, rfl, runOp_keepsClock _ streamPurgeOwner_keepsClock⟩
  | slotAdd => exact ⟨_, rfl, runOp_keepsClock _ slotAddOwner_keepsClock⟩
  | slotDrop => exact ⟨_, rfl, runOp_keepsClock _ slotDropOwner_keepsClock⟩
  | slotRead => exact ⟨_, rfl, runOp_keepsClock _ slotReadOwner_keepsClock⟩
  | stageEmpty => exact ⟨_, rfl, runOp_keepsClock _ stageEmptyOwner_keepsClock⟩
  | stageFromActive => exact ⟨_, rfl, runOp_keepsClock _ stageFromActiveOwner_keepsClock⟩
  | cycleStage => exact ⟨_, rfl, runOp_keepsClock _ cycleStageOwner_keepsClock⟩
  | switch => exact ⟨_, rfl, runOp_keepsClock _ switchOwner_keepsClock⟩
  | withdraw => exact ⟨_, rfl, runOp_keepsClock _ withdrawOwner_keepsClock⟩
  | hold => exact ⟨_, rfl, runOp_keepsClock _ holdOwner_keepsClock⟩
  | resume => exact ⟨_, rfl, runOp_keepsClock _ resumeOwner_keepsClock⟩
  | syncConfig => exact ⟨_, rfl, runOp_keepsClock _ syncConfigOwner_keepsClock⟩
  | syncRead => exact ⟨_, rfl, runOp_keepsClock _ syncReadOwner_keepsClock⟩
  | traceRead => exact ⟨_, rfl, runOp_keepsClock _ traceReadOwner_keepsClock⟩
  | countRead => exact ⟨_, rfl, runOp_keepsClock _ countReadOwner_keepsClock⟩
  | noteAck => exact ⟨_, rfl, runOp_keepsClock _ noteAckOwner_keepsClock⟩
  | noteConfig => exact ⟨_, rfl, runOp_keepsClock _ noteConfigOwner_keepsClock⟩
  | passConfig => exact ⟨_, rfl, runOp_keepsClock _ passConfigOwner_keepsClock⟩
  | restart => exact ⟨_, rfl, runRestart_keepsClock⟩

/-- The unit takes its oldest request: that request leaves the input queue, and power and the cycle timer stay. -/
theorem clockView_takeOldest {s : State} {f : FrameBytes} (hn : nextRequest s = some f) :
    clockView (takeOldest s) = clockView (takeHead s) := by
  suffices h : ∃ run, takeOldest s = takeRequest (rowOf s.mgmt f) run s ∧ RunKeepsClock run by
    obtain ⟨run, htake, hrun⟩ := h
    rw [htake, takeRequest_taken hn rfl, clockView_conclude]
    exact hrun f _
  unfold takeOldest
  rw [hn]
  dsimp only
  cases hr : rowOf s.mgmt f with
  | replay => exact ⟨_, rfl, replayRequest_keepsClock⟩
  | ignore => exact ⟨_, rfl, fun _ _ => rfl⟩
  | unknown => exact ⟨fun f s => answerRequest f (refuse s .unknown), rfl, fun _ _ => rfl⟩
  | op o => exact takeOp_keepsClock o s

/-- Each taking shortens the input queue by one (R129). -/
theorem takeOldest_input_lt {s : State} (h : nextRequest s ≠ none) :
    (takeOldest s).mgmt.input.length < s.mgmt.input.length := by
  obtain ⟨f, hf⟩ := Option.ne_none_iff_exists'.1 h
  obtain ⟨-, -, rest, hin⟩ := nextRequest_some hf
  have htail : (takeOldest s).mgmt.input = s.mgmt.input.tail :=
    congrArg (fun v => v.2.2) (clockView_takeOldest hf)
  rw [htail, hin]
  simp

/-- Power and the cycle timer are the same before and after all that the unit takes by itself. -/
theorem takeWaiting_power_timer (s : State) :
    (takeWaiting s).power = s.power ∧ (takeWaiting s).timer = s.timer := by
  refine takeWaiting_induction (P := fun u => u.power = s.power ∧ u.timer = s.timer) ⟨rfl, rfl⟩ ?_
  rintro u ⟨hp, ht⟩ hn
  obtain ⟨f, hf⟩ := Option.ne_none_iff_exists'.1 hn
  have hview := clockView_takeOldest hf
  exact ⟨(congrArg Prod.fst hview).trans hp, (congrArg (fun v => v.2.1) hview).trans ht⟩

/-! ### All that is due before a tick (R14, R55, R87) -/

theorem clockView_completedD (src : SourceD) (s : State) : clockView (completedD src s) = clockView s := by
  cases src <;> rfl

theorem clockView_finishD (s : State) : clockView (finishD s) = clockView s := by
  unfold finishD
  split
  · split
    · rw [clockView_conclude, completeD_eq, clockView_completedD]
    · rfl
  · rfl

theorem clockView_finishEngine (s : State) : clockView (finishEngine s) = clockView s := by
  unfold finishEngine
  split
  · rw [clockView_conclude, engineEvent_eq]
    rfl
  · rfl

/-- A completion on port U leaves power; it leaves the cycle timer, or a restart takes effect and the timer begins anew
(R33, R141). -/
theorem finishU_power_timer (s : State) :
    (finishU s).power = s.power ∧ ((finishU s).timer = s.timer ∨ (finishU s).timer = {}) := by
  unfold finishU
  split
  · split
    · rw [conclude_eq]
      unfold completeU tellU replyCompleted
      dsimp only
      split
      · exact ⟨rfl, .inl rfl⟩
      · split
        · split
          · exact ⟨rfl, .inr rfl⟩
          · exact ⟨rfl, .inl rfl⟩
        · exact ⟨rfl, .inl rfl⟩
      · exact ⟨rfl, .inl rfl⟩
    · exact ⟨rfl, .inl rfl⟩
  · exact ⟨rfl, .inl rfl⟩

theorem clockView_dropCyc (s : State) : clockView (dropCyc s) = clockView s := by
  unfold dropCyc; split <;> rfl

/-- What is due before a tick leaves power, and does not bring the tick that is the wrap. -/
theorem settle_power_wrapping (s : State) :
    (settle s).power = s.power ∧ (s.timer.wrapping = false → (settle s).timer.wrapping = false) := by
  obtain ⟨hpower, htimer⟩ := takeWaiting_power_timer (settleClock s)
  have hview : clockView (settleClock s) = clockView (finishU (finishD s)) := by
    unfold settleClock
    rw [clockView_dropCyc, clockView_finishEngine]
  obtain ⟨hpowerU, htimerU⟩ := finishU_power_timer (finishD s)
  have hviewD := clockView_finishD s
  unfold settle
  rw [hpower, htimer]
  simp only [clockView, Prod.mk.injEq] at hview hviewD
  obtain ⟨hp, ht, -⟩ := hview
  obtain ⟨hpD, htD, -⟩ := hviewD
  refine ⟨hp.trans (hpowerU.trans hpD), fun hw => ?_⟩
  rw [ht]
  rcases htimerU with h | h
  · rw [h, htD]; exact hw
  · rw [h]

/-- What is due before a tick leaves no request that the unit would take (R129). -/
theorem nextRequest_settle (s : State) : nextRequest (settle s) = none :=
  takeUpTo_done (fun _ h => takeOldest_input_lt h) _ (settleClock s) le_rfl

end Sys2Proof.Link
end

section
/-! PROOF. What a wrap leaves on the lines, what falls together with it, and the settling of the obligation on it (R14,
R45, R55, R56, R62, R159). -/

namespace Sys2Proof.Link

open Sys2Proof.Machine Sys2Proof.Safety Sys2Proof.Claims

/-! ### Transmissions in progress stay (R14) -/

/-- The cycle timer is as it was, and a transmission in progress is still the same one. -/
structure KeepsLines (s t : State) : Prop where
  timer : t.timer = s.timer
  txU : ∀ x, s.txU = some x → t.txU = some x
  txD : ∀ x, s.txD = some x → t.txD = some x

theorem KeepsLines.trans {s t u : State} (h : KeepsLines s t) (k : KeepsLines t u) : KeepsLines s u :=
  ⟨k.timer.trans h.timer, fun x hx => k.txU x (h.txU x hx), fun x hx => k.txD x (h.txD x hx)⟩

/-- The cycle timer and the two transmitters. -/
def lineView (s : State) := (s.timer, s.txU, s.txD)

theorem keepsLines_of_eq {s t : State} (h : lineView t = lineView s) : KeepsLines s t := by
  simp only [lineView, Prod.mk.injEq] at h
  obtain ⟨htimer, hU, hD⟩ := h
  exact ⟨htimer, fun _ hx => hU.trans hx, fun _ hx => hD.trans hx⟩

theorem KeepsLines.refl (s : State) : KeepsLines s s := keepsLines_of_eq rfl

/-- The U transmitter arbiter grants nothing to a BUSY transmitter. -/
theorem arbiterU_keepsLines (s : State) : KeepsLines s (arbiterU s) where
  timer := by rw [arbiterU_eq]
  txU x hx := by rw [arbiterU_of_busy (.inl (by simp [hx])), hx]
  txD x hx := by rw [arbiterU_eq]; exact hx

/-- The D transmitter arbiter grants nothing to a BUSY transmitter. -/
theorem arbiterD_keepsLines (s : State) : KeepsLines s (arbiterD s) where
  timer := by rw [arbiterD_eq]
  txU x hx := by rw [arbiterD_eq]; exact hx
  txD x hx := by rw [arbiterD_of_busy (.inl (by simp [hx])), hx]

theorem conclude_keepsLines (before after : State) : KeepsLines after (conclude before after) := by
  have hD : KeepsLines after (if invokesD before after then arbiterD after else after) := by
    split
    · exact arbiterD_keepsLines after
    · exact .refl after
  unfold conclude
  dsimp only
  split
  · exact hD.trans (arbiterU_keepsLines _)
  · exact hD

theorem decideU_keepsLines (before s : State) : KeepsLines s (decideU before s) := by
  rcases decideU_cases before s with ⟨-, h⟩ | ⟨-, h⟩ <;> rw [h]
  · exact arbiterU_keepsLines s
  · exact .refl s

theorem finishEngine_keepsLines (s : State) : KeepsLines s (finishEngine s) := by
  unfold finishEngine
  split
  · refine KeepsLines.trans (keepsLines_of_eq ?_) (conclude_keepsLines s (engineEvent s))
    rw [engineEvent_eq]
    rfl
  · exact .refl s

/-! ### The blocks at a wrap (R56) -/

theorem lineView_report (o : Occurrence) (s : State) : lineView (report o s) = lineView s := by
  rw [report_eq]; rfl

theorem lineView_reportTimes (n : Nat) (o : Occurrence) (s : State) : lineView (reportTimes n o s) = lineView s := by
  rw [reportTimes_eq]; rfl

theorem lineView_syncAct (k : WrapPlan) (s : State) : lineView (syncAct k s) = lineView s := by
  unfold syncAct
  dsimp only
  rw [gateEnds_eq, reportSync_eq]
  rfl

theorem lineView_planAct (k : WrapPlan) (s : State) : lineView (planAct k s) = lineView s := by
  unfold planAct
  split
  · exact lineView_report _ _
  · dsimp only
    split
    · exact lineView_report _ _
    · rfl

theorem lineView_closeWindow (s : State) : lineView (closeWindow s) = lineView s := by
  rw [closeWindow_eq]; rfl

theorem lineView_withdrawIfEmpty (i : StreamId) (s : State) : lineView (withdrawIfEmpty i s) = lineView s := by
  rw [withdrawIfEmpty_eq]; rfl

/-- What falls amid an ageing grants nothing to a BUSY transmitter (R156). -/
theorem reportAmid_keepsLines (i : StreamId) (k : Nat) (before : State) (acts grants : Bool) (n : Nat) (s : State) :
    KeepsLines s (reportAmid i k (amidAgeing before acts grants) n s) := by
  have hamid : ∀ t, KeepsLines t (amidAgeing before acts grants t) := by
    intro t
    have hacts : KeepsLines t (if acts then noteWait t else t) := keepsLines_of_eq (by cases acts <;> rfl)
    unfold amidAgeing
    dsimp only
    split
    · exact hacts.trans (decideU_keepsLines before _)
    · exact hacts
  unfold reportAmid
  exact (keepsLines_of_eq (lineView_reportTimes _ _ s)).trans
    ((hamid _).trans (keepsLines_of_eq (lineView_reportTimes _ _ _)))

theorem ageStream_keepsLines (i : StreamId) {reports : Nat → State → State}
    (h : ∀ n s, KeepsLines s (reports n s)) (s : State) : KeepsLines s (ageStream i reports s) := by
  unfold ageStream
  dsimp only
  split
  · refine (KeepsLines.trans (keepsLines_of_eq ?_) (h _ _)).trans (keepsLines_of_eq (lineView_withdrawIfEmpty i _))
    rw [freeBufs_eq]
    rfl
  · exact h 0 s

theorem wrapAct_keepsLines (before : State) (k : WrapPlan) (a : WrapAct) (s : State) :
    KeepsLines s (wrapAct before k a s) := by
  cases a with
  | sync => exact keepsLines_of_eq (lineView_syncAct k s)
  | plan => exact keepsLines_of_eq (lineView_planAct k s)
  | close => exact keepsLines_of_eq (lineView_closeWindow s)
  | age i => exact ageStream_keepsLines i (fun n t => keepsLines_of_eq (lineView_reportTimes n _ t)) s
  | notes => exact keepsLines_of_eq rfl
  | grantU => exact decideU_keepsLines before s
  | ageAmid i n acts grants => exact ageStream_keepsLines i (reportAmid_keepsLines i n before acts grants) s
  | unit => exact .refl s

theorem foldl_wrapAct_keepsLines (before : State) (k : WrapPlan) (acts : List WrapAct) (s : State) :
    KeepsLines s (acts.foldl (fun t a => wrapAct before k a t) s) := by
  induction acts generalizing s with
  | nil => exact .refl s
  | cons a acts ih => exact (wrapAct_keepsLines before k a s).trans (ih _)

/-- A wrap passes no tick on a transmission, whatever the order of the blocks: the timer begins the new cycle, and what
was on a line is on it still (R14, R56). -/
theorem wrapEvent_keepsLines (order : List WrapAct) (s : State) :
    KeepsLines (beginCycle (wrapPlan s) s) (wrapEvent order s) := by
  have hblocks : KeepsLines (beginCycle (wrapPlan s) s) (wrapBlocks order s) := by
    refine (foldl_wrapAct_keepsLines s (wrapPlan s) (fullOrder order defaultOrder) _).trans (keepsLines_of_eq ?_)
    unfold wrapBlocks copyPlan
    dsimp only
    split <;> rfl
  exact hblocks.trans ((arbiterD_keepsLines _).trans ((decideU_keepsLines s _).trans (finishEngine_keepsLines _)))

/-! ### The tick that is the wrap (R55) -/

theorem exec_tick {s : State} (hrun : s.power = .running) : exec .tick s = .next (tickEvent s) := by
  show Host.Outcome.next (match s.power with | .running => tickEvent s | .poweringOn => _) = _
  rw [hrun]

/-- The tick that is the wrap comes after all that is due at the last offset. -/
theorem tickEvent_of_wrapping {s : State} (hw : s.timer.wrapping = false) (hu : (tickEvent s).timer.wrapping = true) :
    wrapDue (settle s) = true ∧ tickEvent s = comeToWrap (settle s) := by
  rcases tickEvent_cases s with ⟨h, -⟩ | ⟨-, hdue, h⟩ | ⟨-, -, h⟩
  · simp [hw] at h
  · exact ⟨hdue, h⟩
  · have hkept : (advance (settle s)).timer.wrapping = false := (settle_power_wrapping s).2 hw
    rw [h, hkept] at hu
    cases hu

/-- A completion that ends with the tick that is the wrap is that tick, and then the completion. -/
theorem exec_transmissionComplete_withWrap {s : State} {p : Port} (hrun : s.power = .running)
    (hend : endsWithWrap p s = true) (hrunU : (tickEvent s).power = .running)
    (hu : (tickEvent s).timer.wrapping = true) :
    exec (.transmissionComplete p) s = exec (.transmissionComplete p) (tickEvent s) := by
  have hno : endsWithWrap p (tickEvent s) = false := by simp [endsWithWrap, hu]
  rw [exec_transmissionComplete hrunU hno]
  show Host.Outcome.next (if s.power = .running then if endsWithWrap p s then finishWithWrap p s else _ else s) = _
  rw [if_pos hrun, if_pos hend]
  exact congrArg Host.Outcome.next (if_pos hu)

/-- Once the tick that is the wrap has come and no request waits, the wrap comes next, whatever its order. -/
theorem exec_wrap_of_wrapping {s : State} (hrun : s.power = .running) (hw : s.timer.wrapping = true)
    (hn : nextRequest s = none) (order : List WrapAct) : exec (.wrap order) s = .next (wrapEvent order s) := by
  have hbefore : settleBefore order s = s := by
    obtain ⟨t, ⟨-, rfl⟩ | ⟨hno, -⟩, ⟨-, h⟩ | ⟨-, h⟩⟩ := settleBefore_cases order s
    · exact h
    · rw [h, takeWaiting_of_none hn]
    · simp [hw] at hno
    · simp [hw] at hno
  have hreach : reachWrap s = s := by simp [reachWrap, hw]
  show Host.Outcome.next (wrapWhen (fun _ => true) order s) = _
  unfold wrapWhen
  simp [hbefore, hreach, hrun, hw]

/-- Settles O19: what is due at the last offset leaves no request to take and power as it was, so that a command given
before the tick that is the wrap is the same command given after it; the wrap keeps what is on the lines. -/
theorem completionWithTheWrap : Obligations.CompletionWithTheWrap := by
  intro s u hrun hw hlast htick hu
  obtain rfl : tickEvent s = u := by
    rw [exec_tick hrun] at htick
    injection htick
  obtain ⟨hdue, hcome⟩ := tickEvent_of_wrapping hw hu
  have hrunU : (tickEvent s).power = .running := by
    rw [hcome]; exact (settle_power_wrapping s).1.trans hrun
  have hnone : nextRequest (tickEvent s) = none := by
    rw [hcome]; exact nextRequest_settle s
  have hlastDue : wrapDue s = true := by simp [wrapDue, hlast]
  refine ⟨fun t ht h1 => ?_, fun t ht h1 => ?_, fun order hunit => ?_, fun order v hv => ?_⟩
  · have hleft : ticksLeft .d s = some 1 := by simp [ticksLeft, ht, h1]
    exact exec_transmissionComplete_withWrap hrun ((endsWithWrap_iff .d s).2 ⟨hw, hlastDue, hleft⟩) hrunU hu
  · have hleft : ticksLeft .u s = some 1 := by simp [ticksLeft, ht, h1]
    exact exec_transmissionComplete_withWrap hrun ((endsWithWrap_iff .u s).2 ⟨hw, hlastDue, hleft⟩) hrunU hu
  · have hsettle : reachWrap (settleBefore order s) = tickEvent s := by
      have hbefore : settleBefore order s = settle s := by simp [settleBefore, hw, hunit, settle]
      rw [hbefore, hcome]
      simp [reachWrap, (settle_power_wrapping s).2 hw, hdue]
    rw [exec_wrap_of_wrapping hrunU hu hnone]
    show Host.Outcome.next (wrapWhen (fun _ => true) order s) = _
    unfold wrapWhen
    simp [hsettle, hrun, hu]
  · rw [exec_wrap_of_wrapping hrunU hu hnone] at hv
    obtain rfl : wrapEvent order (tickEvent s) = v := by injection hv
    obtain ⟨htimer, hU, hD⟩ := wrapEvent_keepsLines order (tickEvent s)
    exact ⟨by rw [htimer]; rfl, by rw [htimer]; rfl, hU, hD⟩

end Sys2Proof.Link
end

section
/-! PROOF. What a step of the part is made of: the events of a running part, the effects of the requests, and the
induction that makes an invariant of them into an invariant of every step. -/

namespace Sys2Proof.Invariants

open Sys2Proof.Machine Sys2Proof.Safety Sys2Proof.Claims Sys2Proof.Link

/-! ### The effects of the requests (R46 to R52, R75 to R78, R105 to R125, R138, R139, R152, R161, R167) -/

/-- What the rule that owns a request can do to the state, with what its checks have made sure of. -/
inductive Effect (s : State) : State → Prop
  | none : Effect s s
  | writeStream {a : List Byte} {w : StreamWriteArgs} (args : streamWriteArgs a = some w)
      (unlocked : (s.stream w.index).locked = false) (unique : tagTaken s w.index w.tag = false)
      (fits : writeNeedsEmpty (s.stream w.index) w = false) :
      Effect s (setStream w.index (writtenStream (s.stream w.index) w) s)
  | deleteStream {i : StreamId} (unlocked : (s.stream i).locked = false) (unused : streamInUse i s.plan = false) :
      Effect s (deleteStream i s)
  | lockStream {i : StreamId} (valid : (s.stream i).valid = true) :
      Effect s (setStream i { s.stream i with locked := true } s)
  | purge {i : StreamId} (valid : (s.stream i).valid = true) : Effect s (purgeQueue i s)
  | addSlot {a : List Byte} {x : Slot} (args : slotArgs a = some x) (idle : s.plan.mode.switching = false)
      (room : s.plan.staged.length < 64) (fresh : (s.plan.staged.any fun y => y.openAt == x.openAt) = false)
      (apart : overlaps s.plan.staged x = false) :
      Effect s (setStaged (slotsBelow s.plan.staged x.openAt ++ x :: slotsFrom s.plan.staged x.openAt) s.plan.stagedL s)
  | dropSlot {pos : Nat} (idle : s.plan.mode.switching = false) :
      Effect s (setStaged (s.plan.staged.eraseIdx pos) s.plan.stagedL s)
  | emptyStaged (idle : s.plan.mode.switching = false) : Effect s (setStaged [] s.plan.stagedL s)
  | stageActive (idle : s.plan.mode.switching = false) :
      Effect s (setStaged (s.plan.active.map ActiveSlot.slot) s.plan.activeL s)
  | stageLength {l : Nat} (idle : s.plan.mode.switching = false) (low : 2500 ≤ l) (high : l ≤ 2000000) :
      Effect s (setStaged s.plan.staged l s)
  | switch {t : Target} (target : t ≠ .none) (steady : s.plan.mode = .steady) (verified : verifyPlan s = none) :
      Effect s { s with plan := { s.plan with mode := .pending, target := t } }
  | withdraw (pending : s.plan.mode.switching = true) : Effect s (withdrawSwitch s)
  | hold (limit : Nat) (released : s.plan.mode.holds = false) : Effect s (beginHold limit s)
  | resume (held : s.plan.mode.holds = true) : Effect s (endHold s)
  | configureSync {a : List Byte} {n : SyncSettings} (args : syncArgs a = some n)
      (idle : s.plan.mode.switching = false) (fits : tailFault s.plan n = .none) :
      Effect s (gateEnds s (reportSync s.sync.mode { s with sync := configuredSync s.sync n (adjustment s) }))
  | zero (g : Group) : Effect s (zeroGroup g s)
  | ackNote {q : BitVec 8} (stands : (s.notes.queue.any fun r => r.seq == some q) = true) :
      Effect s { s with notes := ackLeaves q s.timer.cycle s.notes }
  | configureNotes (mask : BitVec 12) (retry : Nat) :
      Effect s { s with notes := { s.notes with mask := mask, retry := retry } }
  | configurePass (u : Unmatched) (margin : Nat) :
      Effect s { s with mgmt := { s.mgmt with unmatched := u, guardMargin := margin } }

/-- The rule that owns a request of the table (R145); a RESTART has none (R140). -/
def ownerOf : Op → List Byte → State → Answer
  | .ident => identOwner
  | .streamWrite => streamWriteOwner
  | .streamDelete => streamDeleteOwner
  | .streamLock => streamLockOwner
  | .streamRead => streamReadOwner
  | .streamPurge => streamPurgeOwner
  | .slotAdd => slotAddOwner
  | .slotDrop => slotDropOwner
  | .slotRead => slotReadOwner
  | .stageEmpty => stageEmptyOwner
  | .stageFromActive => stageFromActiveOwner
  | .cycleStage => cycleStageOwner
  | .switch => switchOwner
  | .withdraw => withdrawOwner
  | .hold => holdOwner
  | .resume => resumeOwner
  | .syncConfig => syncConfigOwner
  | .syncRead => syncReadOwner
  | .traceRead => traceReadOwner
  | .countRead => countReadOwner
  | .noteAck => noteAckOwner
  | .noteConfig => noteConfigOwner
  | .passConfig => passConfigOwner
  | .restart => fun _ s => refuse s .length

/-- An edit of the staged plan has its effect only while no switch is pending (R105). -/
theorem effect_editing {s : State} {edit : Answer}
    (h : s.plan.mode.switching = false → Effect s edit.state) : Effect s (editing s edit).state := by
  unfold editing
  split
  · exact .none
  · rename_i hs; exact h (by simpa using hs)

theorem effect_streamWrite (a : List Byte) (s : State) : Effect s (streamWriteOwner a s).state := by
  unfold streamWriteOwner
  split
  · rename_i w hw
    split
    · exact .none
    · rename_i hl
      split
      · exact .none
      · rename_i ht
        split
        · exact .none
        · rename_i he
          exact .writeStream hw (by simpa using hl) (by simpa using ht) (by simpa using he)
  · exact .none

theorem effect_streamDelete (a : List Byte) (s : State) : Effect s (streamDeleteOwner a s).state := by
  unfold streamDeleteOwner
  split
  · split
    · exact .none
    · split
      · exact .none
      · rename_i hl
        split
        · exact .none
        · rename_i hu
          exact .deleteStream (by simpa using hl) (by simpa using hu)
  · exact .none

theorem effect_streamLock (a : List Byte) (s : State) : Effect s (streamLockOwner a s).state := by
  unfold streamLockOwner
  split
  · split
    · exact .none
    · rename_i hv; exact .lockStream (by simpa using hv)
  · exact .none

theorem effect_streamRead (a : List Byte) (s : State) : Effect s (streamReadOwner a s).state := by
  unfold streamReadOwner
  split
  · split <;> exact .none
  · exact .none

theorem effect_streamPurge (a : List Byte) (s : State) : Effect s (streamPurgeOwner a s).state := by
  unfold streamPurgeOwner
  split
  · split
    · exact .none
    · rename_i hv; exact .purge (by simpa using hv)
  · exact .none

theorem effect_slotAdd (a : List Byte) (s : State) : Effect s (slotAddOwner a s).state := by
  unfold slotAddOwner
  split
  · rename_i x hx
    refine effect_editing fun hs => ?_
    split
    · exact .none
    · rename_i hroom
      split
      · exact .none
      · rename_i hfresh
        split
        · exact .none
        · rename_i hapart
          exact .addSlot hx hs (by simpa using hroom) (by simpa using hfresh) (by simpa using hapart)
  · exact .none

theorem effect_slotDrop (a : List Byte) (s : State) : Effect s (slotDropOwner a s).state := by
  unfold slotDropOwner
  split
  · exact .none
  · refine effect_editing fun hs => ?_
    split
    · exact .dropSlot hs
    · exact .none

theorem effect_slotRead (a : List Byte) (s : State) : Effect s (slotReadOwner a s).state := by
  unfold slotReadOwner
  split
  · exact .none
  · split <;> exact .none

theorem effect_cycleStage (a : List Byte) (s : State) : Effect s (cycleStageOwner a s).state := by
  unfold cycleStageOwner
  split
  · exact .none
  · rename_i hl
    exact effect_editing fun hs => .stageLength hs (by omega) (by omega)

theorem switchTarget_ne_none {a : List Byte} {c : Cycle} {t : Target} (h : switchTarget a c = some t) :
    t ≠ .none := by
  unfold switchTarget at h
  dsimp only at h
  split at h
  · injection h with h; subst h; simp
  · split at h
    · injection h with h; subst h; simp
    · cases h
  · cases h

theorem effect_switch (a : List Byte) (s : State) : Effect s (switchOwner a s).state := by
  unfold switchOwner
  split
  · rename_i t ht
    split
    · exact .none
    · exact .none
    · exact .none
    · rename_i hsteady
      split
      · exact .none
      · rename_i hv
        exact .switch (switchTarget_ne_none ht) hsteady hv
  · exact .none

theorem effect_withdraw (a : List Byte) (s : State) : Effect s (withdrawOwner a s).state := by
  unfold withdrawOwner
  split
  · rename_i h; exact .withdraw h
  · exact .none

theorem effect_hold (a : List Byte) (s : State) : Effect s (holdOwner a s).state := by
  unfold holdOwner
  split
  · exact .none
  · rename_i h
    split
    · exact .none
    · exact .hold _ (by simpa using h)

theorem effect_resume (a : List Byte) (s : State) : Effect s (resumeOwner a s).state := by
  unfold resumeOwner
  split
  · rename_i h; exact .resume h
  · exact .none

theorem effect_syncConfig (a : List Byte) (s : State) : Effect s (syncConfigOwner a s).state := by
  unfold syncConfigOwner
  split
  · rename_i n hn
    split
    · exact .none
    · rename_i hs
      split
      · exact .none
      · rename_i ht
        exact .configureSync hn (by simpa using hs) ht
  · exact .none

theorem effect_traceRead (a : List Byte) (s : State) : Effect s (traceReadOwner a s).state := by
  unfold traceReadOwner
  split <;> exact .none

theorem effect_countRead (a : List Byte) (s : State) : Effect s (countReadOwner a s).state := by
  unfold countReadOwner
  split
  · split
    · exact .zero _
    · exact .none
  · exact .none

theorem effect_noteAck (a : List Byte) (s : State) : Effect s (noteAckOwner a s).state := by
  unfold noteAckOwner
  dsimp only
  split
  · rename_i h; exact .ackNote h
  · exact .none

theorem effect_noteConfig (a : List Byte) (s : State) : Effect s (noteConfigOwner a s).state := by
  unfold noteConfigOwner
  split
  · exact .none
  · exact .configureNotes _ _

theorem effect_passConfig (a : List Byte) (s : State) : Effect s (passConfigOwner a s).state := by
  unfold passConfigOwner
  split
  · split
    · exact .configurePass _ _
    · exact .none
  · exact .none

/-- Whatever a request asks, its owner leaves one of the effects. -/
theorem effect_ownerOf (o : Op) (a : List Byte) (s : State) : Effect s (ownerOf o a s).state := by
  cases o with
  | ident => exact .none
  | streamWrite => exact effect_streamWrite a s
  | streamDelete => exact effect_streamDelete a s
  | streamLock => exact effect_streamLock a s
  | streamRead => exact effect_streamRead a s
  | streamPurge => exact effect_streamPurge a s
  | slotAdd => exact effect_slotAdd a s
  | slotDrop => exact effect_slotDrop a s
  | slotRead => exact effect_slotRead a s
  | stageEmpty => exact effect_editing .emptyStaged
  | stageFromActive => exact effect_editing .stageActive
  | cycleStage => exact effect_cycleStage a s
  | switch => exact effect_switch a s
  | withdraw => exact effect_withdraw a s
  | hold => exact effect_hold a s
  | resume => exact effect_resume a s
  | syncConfig => exact effect_syncConfig a s
  | syncRead => exact .none
  | traceRead => exact effect_traceRead a s
  | countRead => exact effect_countRead a s
  | noteAck => exact effect_noteAck a s
  | noteConfig => exact effect_noteConfig a s
  | passConfig => exact effect_passConfig a s
  | restart => exact .none

/-! ### A request answered (R129 to R137, R140) -/

/-- What the taking of a request leaves, from the state in which the request has left the input queue. -/
inductive Answered (f : FrameBytes) (s : State) : State → Prop
  | reply (a : Answer) (effect : Effect s a.state) : Answered f s (answerRequest f a)
  | broadcast (a : Answer) (effect : Effect s a.state) : Answered f s (answerBroadcast f a)
  | replay : Answered f s (replayRequest s)
  | ignore : Answered f s (countMgmt (fun c => { c with broadcastIgnored := c.broadcastIgnored + 1 }) s)
  | restart : Answered f s (beginRestart f s)

/-- How the step of a request runs it (R129, R130, R135 to R137, R140). -/
def runOf : Row → FrameBytes → State → State
  | .replay => fun _ s => replayRequest s
  | .ignore => fun _ s => countMgmt (fun c => { c with broadcastIgnored := c.broadcastIgnored + 1 }) s
  | .unknown => fun f s => answerRequest f (refuse s .unknown)
  | .op .restart => runRestart
  | .op o => runOp o (ownerOf o)

theorem effect_checked (o : Op) (f : FrameBytes) (s : State) : Effect s (checked o (ownerOf o) f s).state := by
  unfold checked
  split
  · exact effect_ownerOf o _ s
  · exact .none

theorem answered_runOp (o : Op) (f : FrameBytes) (s : State) : Answered f s (runOp o (ownerOf o) f s) := by
  unfold runOp
  split
  · exact .broadcast _ (effect_checked o f s)
  · exact .reply _ (effect_checked o f s)

theorem answered_runRestart (f : FrameBytes) (s : State) : Answered f s (runRestart f s) := by
  unfold runRestart
  split
  · exact .restart
  · exact .reply _ .none

theorem answered_runOf (r : Row) (f : FrameBytes) (s : State) : Answered f s (runOf r f s) := by
  cases r with
  | replay => exact .replay
  | ignore => exact .ignore
  | unknown => exact .reply _ .none
  | op o =>
    cases o with
    | restart => exact answered_runRestart f s
    | _ => exact answered_runOp _ f s

/-- The unit takes its oldest request as that request's own step does (R129). -/
theorem takeOldest_eq {s : State} {f : FrameBytes} (h : nextRequest s = some f) :
    takeOldest s = conclude s (runOf (rowOf s.mgmt f) f (takeHead s)) := by
  suffices hrun : takeOldest s = takeRequest (rowOf s.mgmt f) (runOf (rowOf s.mgmt f)) s by
    rw [hrun, takeRequest_taken h rfl]
  unfold takeOldest
  simp only [h]
  cases rowOf s.mgmt f with
  | replay => rfl
  | ignore => rfl
  | unknown => rfl
  | op o => cases o <;> rfl

/-! ### The events of a running part -/

/-- What the arbiters follow: a frame's header or end, a change of a line, a completion, the release engine's event, a
request taken (R32, R100). -/
inductive Event (s : State) : State → Prop
  | header (p : Port) (b : Byte) (due : headerDue p s = true) : Event s (headerEvent p b s)
  | frameEnd (p : Port) (b : Byte) : Event s (endEvent p b s)
  | link (p : Port) (l : Link) : Event s (changeLink p l s)
  | completeD {t : Transmission SourceD} (busy : s.txD = some t) : Event s (completeD t s)
  | completeU {t : Transmission SourceU} (busy : s.txU = some t) : Event s (completeU t s)
  | engine : Event s (engineEvent s)
  | request {f : FrameBytes} {t : State} (next : nextRequest s = some f) (taken : Answered f (takeHead s) t) : Event s t

/-- What no arbiter follows: a byte that is neither the fourth nor the last of its frame, the fall of CYC, a tick. -/
inductive Quiet (s : State) : State → Prop
  | byte (p : Port) (b : Byte) : Quiet s (byteEvent p b s)
  | cycFall : Quiet s { s with cyc := false }
  | advance : Quiet s (advance s)
  | comeToWrap : Quiet s (comeToWrap s)

/-- An invariant of the running part: every event keeps it, the arbiters' decisions included. -/
structure KeptByEvents (I : State → Prop) : Prop where
  quiet : ∀ {s t}, I s → Quiet s t → I t
  event : ∀ {s t}, I s → Event s t → I (conclude s t)
  wrap : ∀ {s} order, I s → I (decideU s (arbiterD (wrapBlocks order s)))

/-- An invariant that each part of an event keeps by itself: what the event does, each arbiter's decision, and each
block's action at a wrap. -/
structure KeptByBlocks (I : State → Prop) : Prop where
  quiet : ∀ {s t}, I s → Quiet s t → I t
  event : ∀ {s t}, I s → Event s t → I t
  arbiterU : ∀ {s}, I s → I (arbiterU s)
  arbiterD : ∀ {s}, I s → I (arbiterD s)
  begin : ∀ {s} k, I s → I (beginCycle k s)
  act : ∀ {s} before k a, I s → I (wrapAct before k a s)
  copy : ∀ {s} k, I s → I (copyPlan k s)
  rewind : ∀ {s}, I s → I (rewind s)

theorem KeptByBlocks.and {I J : State → Prop} (h : KeptByBlocks I) (k : KeptByBlocks J) :
    KeptByBlocks fun s => I s ∧ J s where
  quiet hs e := ⟨h.quiet hs.1 e, k.quiet hs.2 e⟩
  event hs e := ⟨h.event hs.1 e, k.event hs.2 e⟩
  arbiterU hs := ⟨h.arbiterU hs.1, k.arbiterU hs.2⟩
  arbiterD hs := ⟨h.arbiterD hs.1, k.arbiterD hs.2⟩
  begin w hs := ⟨h.begin w hs.1, k.begin w hs.2⟩
  act b w a hs := ⟨h.act b w a hs.1, k.act b w a hs.2⟩
  copy w hs := ⟨h.copy w hs.1, k.copy w hs.2⟩
  rewind hs := ⟨h.rewind hs.1, k.rewind hs.2⟩

section
variable {I : State → Prop}

theorem KeptByBlocks.decideU (h : KeptByBlocks I) (before : State) {s : State} (hs : I s) : I (decideU before s) := by
  rcases decideU_cases before s with ⟨-, he⟩ | ⟨-, he⟩ <;> rw [he]
  · exact h.arbiterU hs
  · exact hs

theorem KeptByBlocks.conclude (h : KeptByBlocks I) (before : State) {s : State} (hs : I s) : I (conclude before s) := by
  have hD : I (if invokesD before s then Machine.arbiterD s else s) := by
    split
    · exact h.arbiterD hs
    · exact hs
  unfold Machine.conclude
  dsimp only
  split
  · exact h.arbiterU hD
  · exact hD

theorem KeptByBlocks.wrapBlocks (h : KeptByBlocks I) (order : List WrapAct) {s : State} (hs : I s) :
    I (wrapBlocks order s) := by
  have hfold : ∀ (acts : List WrapAct) (t : State), I t → I (acts.foldl (fun t a => wrapAct s (wrapPlan s) a t) t) := by
    intro acts
    induction acts with
    | nil => exact fun _ ht => ht
    | cons a acts ih => exact fun t ht => ih _ (h.act s (wrapPlan s) a ht)
  exact h.rewind (h.copy _ (hfold _ _ (h.begin _ hs)))

theorem KeptByBlocks.events (h : KeptByBlocks I) : KeptByEvents I where
  quiet := h.quiet
  event hs he := h.conclude _ (h.event hs he)
  wrap order hs := h.decideU _ (h.arbiterD (h.wrapBlocks order hs))

namespace KeptByEvents

variable (h : KeptByEvents I) {s : State}
include h

theorem finishD (hs : I s) : I (finishD s) := by
  unfold Machine.finishD
  split
  · rename_i t ht
    split
    · exact h.event hs (.completeD ht)
    · exact hs
  · exact hs

theorem finishU (hs : I s) : I (finishU s) := by
  unfold Machine.finishU
  split
  · rename_i t ht
    split
    · exact h.event hs (.completeU ht)
    · exact hs
  · exact hs

theorem finishPort (p : Port) (hs : I s) : I (finishPort p s) := by
  cases p with
  | u => exact h.finishU hs
  | d => exact h.finishD hs

theorem finishEngine (hs : I s) : I (finishEngine s) := by
  unfold Machine.finishEngine
  split
  · exact h.event hs .engine
  · exact hs

theorem dropCyc (hs : I s) : I (dropCyc s) := by
  unfold Machine.dropCyc
  split
  · exact h.quiet hs .cycFall
  · exact hs

theorem settleClock (hs : I s) : I (settleClock s) :=
  h.dropCyc (h.finishEngine (h.finishU (h.finishD hs)))

theorem takeRequest (r : Row) (hs : I s) : I (takeRequest r (runOf r) s) := by
  rcases takeRequest_cases r (runOf r) s with he | ⟨f, hf, -, he⟩ <;> rw [he]
  · exact hs
  · exact h.event hs (.request hf (answered_runOf r f _))

theorem takeWaiting (hs : I s) : I (takeWaiting s) := by
  refine takeWaiting_induction hs fun u hu hn => ?_
  obtain ⟨f, hf⟩ := Option.ne_none_iff_exists'.1 hn
  rw [takeOldest_eq hf]
  exact h.event hu (.request hf (answered_runOf _ f _))

theorem tickEvent (hs : I s) : I (tickEvent s) := by
  have hsettle : I (settle s) := h.takeWaiting (h.settleClock hs)
  rcases tickEvent_cases s with ⟨-, he⟩ | ⟨-, -, he⟩ | ⟨-, -, he⟩ <;> rw [he]
  · exact hs
  · exact h.quiet hsettle .comeToWrap
  · exact h.quiet hsettle .advance

theorem linkReport (p : Port) (l : Link) (hs : I s) : I (linkReport p l s) := by
  unfold Machine.linkReport
  split
  · exact hs
  · exact h.event hs (.link p l)

theorem wrapEvent (order : List WrapAct) (hs : I s) : I (wrapEvent order s) := h.finishEngine (h.wrap order hs)

theorem settleBefore (order : List WrapAct) (hs : I s) : I (settleBefore order s) := by
  obtain ⟨t, ht, he⟩ := settleBefore_cases order s
  have hI : I t := by
    rcases ht with ⟨-, rfl⟩ | ⟨-, rfl⟩
    · exact hs
    · exact h.settleClock hs
  rcases he with ⟨-, he⟩ | ⟨-, he⟩ <;> rw [he]
  · exact hI
  · exact h.takeWaiting hI

theorem reachWrap (hs : I s) : I (reachWrap s) := by
  rcases reachWrap_cases s with ⟨-, -, he⟩ | ⟨-, he⟩ <;> rw [he]
  · exact h.quiet hs .comeToWrap
  · exact hs

theorem wrapWhen (cond : State → Bool) (order : List WrapAct) (hs : I s) : I (wrapWhen cond order s) := by
  unfold Machine.wrapWhen
  dsimp only
  split
  · exact h.wrapEvent order (h.reachWrap (h.settleBefore order hs))
  · exact hs

theorem transmissionComplete {p : Port} {t : State} (hs : I s) (he : execTransmissionComplete p s = .next t) : I t := by
  rcases transmissionComplete_cases he with ⟨-, rfl⟩ | ⟨-, -, rfl⟩ | ⟨-, -, ⟨-, rfl⟩ | ⟨-, rfl⟩⟩
  · exact hs
  · exact h.finishPort p hs
  · exact h.finishPort p (h.tickEvent hs)
  · exact hs

theorem firstReports (linkU linkD : Link) (dFirst : Bool) (hs : I s) : I (firstReports linkU linkD dFirst s) := by
  unfold Machine.firstReports
  split
  · exact h.linkReport _ _ (h.linkReport _ _ hs)
  · exact h.linkReport _ _ (h.linkReport _ _ hs)

/-- Every command but POWER_ON keeps it in a part that runs. -/
theorem exec {c : Instr} {t : State} (hc : ∀ cause, c ≠ .powerOn cause) (hrun : s.power = .running) (hs : I s)
    (he : exec c s = .next t) : I t := by
  cases c with
  | powerOn cause => exact absurd rfl (hc cause)
  | powerOnComplete n straps linkU linkD dFirst =>
    have hdue : powerOnDue s = false := by simp [powerOnDue, hrun]
    injection he with he
    rw [hdue, Bool.false_and, if_neg Bool.false_ne_true] at he
    exact he ▸ hs
  | linkChange p l =>
    injection he with he
    rw [if_pos hrun] at he
    exact he ▸ h.linkReport p l hs
  | headerTime p b =>
    injection he with he
    subst he
    split
    · rename_i hd
      exact h.event hs (.header p b (Bool.and_eq_true_iff.1 hd).2)
    · exact hs
  | frameEnd p b =>
    injection he with he
    subst he
    split
    · exact h.event hs (.frameEnd p b)
    · exact hs
  | firstByteOfFrame p b =>
    injection he with he
    subst he
    split
    · exact h.quiet hs (.byte p b)
    · exact hs
  | tick =>
    rw [exec_tick hrun] at he
    injection he with he
    exact he ▸ h.tickEvent hs
  | transmissionComplete p => exact h.transmissionComplete hs he
  | cycFall =>
    injection he with he
    rw [if_pos hrun] at he
    exact he ▸ h.dropCyc hs
  | slotTake =>
    injection he with he
    subst he
    split
    · exact h.finishEngine hs
    · exact hs
  | windowClose =>
    injection he with he
    subst he
    split
    · exact h.finishEngine hs
    · exact hs
  | wrap order => injection he with he; exact he ▸ h.wrapWhen _ order hs
  | missLimitReached order => injection he with he; exact he ▸ h.wrapWhen _ order hs
  | holdoverLimitReached order => injection he with he; exact he ▸ h.wrapWhen _ order hs
  | staleRemoval order => injection he with he; exact he ▸ h.wrapWhen _ order hs
  | holdExpiry order => injection he with he; exact he ▸ h.wrapWhen _ order hs
  | noteTimeout order => injection he with he; exact he ▸ h.wrapWhen _ order hs
  | _ =>
    injection he with he
    subst he
    exact h.takeRequest _ hs

end KeptByEvents

end

end Sys2Proof.Invariants
end

section
/-! PROOF. Closure rules shared by the invariants: the events of a line, the arbiters' decisions, the answering of a
request, the ageing amid which the note unit acts; the step of the part, and power as an invariant. -/

namespace Sys2Proof.Invariants

open Sys2Proof.Machine Sys2Proof.Safety Sys2Proof.Claims Sys2Proof.Link

/-! ### The events of a line (R3 to R17) -/

/-- A byte of a frame is written into the pool and the receive areas, and nowhere else (R3). -/
theorem writeByte_eq (rx : Receiver) (b : Byte) (s : State) :
    writeByte rx b s =
      { s with
        pool := (writeByte rx b s).pool
        markArea := (writeByte rx b s).markArea
        mgmtArea := (writeByte rx b s).mgmtArea } := by
  unfold writeByte
  split
  · rcases rx.route with _ | (_ | _ | _ | _ | _ | _ | _ | _) <;> cases rx.buffer <;> rfl
  · rfl

theorem writeHeader_eq (rx : Receiver) (s : State) :
    writeHeader rx s =
      { s with
        pool := (writeHeader rx s).pool
        markArea := (writeHeader rx s).markArea
        mgmtArea := (writeHeader rx s).mgmtArea } := by
  unfold writeHeader
  rcases rx.route with _ | (_ | _ | _ | _ | _ | _ | _ | _) <;> cases rx.buffer <;> rfl

/-- A refusal of a buffer takes the receiver to SKIP, or for a broadcast request to BODY without a buffer (R12, R21). -/
theorem afterRefusal_cases (p : Port) (rx : Receiver) (r : Route) (s : State) :
    r = .broadcast ∧ afterRefusal p rx r s = enterBody p rx r none (refuseBuffer p s) ∨
    afterRefusal p rx r s = setRx p skipping (refuseBuffer p s) := by
  cases r with
  | broadcast => exact .inl ⟨rfl, rfl⟩
  | _ => exact .inr rfl

/-- At header time a route takes the resource it needs, or is refused a buffer (R7, R8, R21). -/
theorem takeResource_cases (p : Port) (rx : Receiver) (r : Route) (s : State) :
    r.needsBuffer = false ∧ takeResource p rx r s = enterBody p rx r none s ∨
    r.needsBuffer = true ∧ takeResource p rx r s = afterRefusal p rx r s ∨
    ∃ x, r.needsBuffer = true ∧ lowestFree s = some x ∧ takeResource p rx r s = enterBody p rx r (some x) s := by
  unfold takeResource
  cases r.needsBuffer with
  | false => exact .inl ⟨rfl, rfl⟩
  | true =>
    cases mayAllocate p s with
    | false => exact .inr (.inl ⟨rfl, rfl⟩)
    | true =>
      cases hx : lowestFree s with
      | none => exact .inr (.inl ⟨rfl, rfl⟩)
      | some x => exact .inr (.inr ⟨x, rfl, rfl, rfl⟩)

/-- Header time counts a MALFORMED header, or takes the resource of the header's route (R4, R7, R8). -/
theorem headerEvent_cases (p : Port) (b : Byte) (s : State) :
    headerEvent p b s =
        countPort p (fun c => { c with rxMalformed := c.rxMalformed + 1 }) (setRx p skipping s) ∨
    ∃ r, headerEvent p b s = takeResource p (rxByte (s.port p).rx b) r s := by
  unfold headerEvent
  dsimp only
  split
  · exact .inl rfl
  · exact .inr ⟨_, rfl⟩

/-- What an invariant must keep under to be kept by every byte, header time, end of a frame and change of a line. -/
structure KeptOnLines (I : State → Prop) : Prop where
  port : ∀ {s} p x, I s → I (s.setPort p x)
  report : ∀ {s} o, I s → I (report o s)
  buffers : ∀ {s} v m g, I s → I { s with pool := v, markArea := m, mgmtArea := g }
  counters : ∀ {s} c, I s → I { s with stores := { s.stores with counters := c } }
  pass : ∀ {s} b, I s → I (passAppend b s)
  back : ∀ {s} b, I s → I (backAppend b s)
  admission : ∀ {s i} b, (s.stream i).valid = true → I s → I (admitFrame i b s)
  mark : ∀ {s}, I s → I (deliverMark s)
  offer : ∀ {s}, I s → I (offerRequest s)

namespace KeptOnLines

variable {I : State → Prop} (h : KeptOnLines I) {s : State}
include h

theorem writeByte (rx : Receiver) (b : Byte) (hs : I s) : I (writeByte rx b s) := by
  rw [writeByte_eq]; exact h.buffers _ _ _ hs

theorem bodyByte (p : Port) (b : Byte) (hs : I s) : I (bodyByte p b s) := h.port _ _ (h.writeByte _ _ hs)

theorem byte (p : Port) (b : Byte) (hs : I s) : I (byteEvent p b s) := by
  unfold byteEvent
  dsimp only
  split
  · exact h.port _ _ hs
  · split
    · exact hs
    · exact h.port _ _ hs
  · exact h.bodyByte p b hs
  · exact hs

theorem enterBody (p : Port) (rx : Receiver) (r : Route) (x : Option BufId) (hs : I s) : I (enterBody p rx r x s) := by
  refine h.port _ _ ?_
  rw [writeHeader_eq]
  exact h.buffers _ _ _ hs

theorem refuseBuffer (p : Port) (hs : I s) : I (refuseBuffer p s) := h.report _ (h.port _ _ hs)

theorem takeResource (p : Port) (rx : Receiver) (r : Route) (hs : I s) : I (takeResource p rx r s) := by
  rcases takeResource_cases p rx r s with ⟨-, he⟩ | ⟨-, he⟩ | ⟨x, -, -, he⟩ <;> rw [he]
  · exact h.enterBody _ _ _ _ hs
  · rcases afterRefusal_cases p rx r s with ⟨-, he⟩ | he <;> rw [he]
    · exact h.enterBody _ _ _ _ (h.refuseBuffer p hs)
    · exact h.port _ _ (h.refuseBuffer p hs)
  · exact h.enterBody _ _ _ _ hs

theorem header (p : Port) (b : Byte) (hs : I s) : I (headerEvent p b s) := by
  rcases headerEvent_cases p b s with he | ⟨r, he⟩ <;> rw [he]
  · exact h.port _ _ (h.port _ _ hs)
  · exact h.takeResource _ _ _ hs

theorem releaseResource (rx : Receiver) (hs : I s) : I (releaseResource rx s) := by
  rw [releaseResource_eq]
  exact h.buffers _ _ _ hs

theorem recheck (i : StreamId) (tag : Tag) (b : BufId) (hs : I s) : I (recheck i tag b s) := by
  unfold Machine.recheck
  split
  · rename_i hv
    exact h.admission b (Bool.and_eq_true_iff.1 hv).1 hs
  · split
    · exact h.pass b hs
    · exact h.counters _ (h.buffers _ _ _ hs)

theorem deliver (rx : Receiver) (hs : I s) : I (deliver rx s) := by
  unfold Machine.deliver
  split
  · exact h.recheck _ _ _ hs
  · exact h.pass _ hs
  · exact h.back _ hs
  · exact h.counters _ hs
  · exact h.mark hs
  · exact h.offer hs
  · exact h.pass _ (h.offer hs)
  · exact h.offer hs
  all_goals exact hs

theorem countGood (p : Port) (r : Option Route) (hs : I s) : I (countGood p r s) := by
  unfold Machine.countGood
  split <;> exact h.port _ _ hs

theorem endBody (p : Port) (rx : Receiver) (hs : I s) : I (endBody p rx s) := by
  unfold Machine.endBody
  dsimp only
  split
  · exact h.port _ _ (h.releaseResource _ (h.port _ _ hs))
  · exact h.port _ _ (h.releaseResource _ (h.port _ _ hs))
  · exact h.deliver _ (h.countGood _ _ (h.port _ _ hs))

theorem frameEnd (p : Port) (b : Byte) (hs : I s) : I (endEvent p b s) := by
  unfold endEvent
  split
  · exact h.port _ _ hs
  · exact h.port _ _ hs
  · exact h.port _ _ (h.port _ _ hs)
  · exact h.endBody _ _ (h.bodyByte p b hs)

theorem cutFrame (p : Port) (hs : I s) : I (cutFrame p s) := by
  unfold Machine.cutFrame
  dsimp only
  split
  · exact hs
  · exact h.port _ _ hs
  · exact h.port _ _ (h.port _ _ hs)
  · exact h.port _ _ (h.releaseResource _ (h.port _ _ hs))

theorem link (p : Port) (l : Link) (hs : I s) : I (changeLink p l s) := by
  have hr : ∀ o, I (Machine.report o (countPort p (fun c => { c with linkChanges := c.linkChanges + 1 }) (setLink p l s))) :=
    fun o => h.report o (h.port _ _ (h.port _ _ hs))
  unfold changeLink
  dsimp only
  split
  · exact h.cutFrame p (hr _)
  · exact hr _

end KeptOnLines

/-! ### What an admission, a MARK and a request offered change -/

theorem raiseFor_eq (i : StreamId) (s : State) :
    raiseFor i s = { s with engine := { s.engine with request := (raiseFor i s).engine.request } } := by
  unfold raiseFor
  split
  · split
    · exact raiseRequest_eq s
    · rfl
  · rfl

theorem supersedeHead_eq (i : StreamId) (s : State) :
    supersedeHead i s =
      { s with
        pool := (supersedeHead i s).pool
        streams := (supersedeHead i s).streams
        notes := (supersedeHead i s).notes } := by
  unfold supersedeHead
  split
  · dsimp only
    rw [report_eq]
    rfl
  · rfl

/-- An admission changes the pool, the stream table, the note unit and the request at most (R38 to R40). -/
theorem admitFrame_eq (i : StreamId) (b : BufId) (s : State) :
    admitFrame i b s =
      { s with
        pool := (admitFrame i b s).pool
        streams := (admitFrame i b s).streams
        notes := (admitFrame i b s).notes
        engine := (admitFrame i b s).engine } := by
  unfold admitFrame
  dsimp only
  split
  · rw [raiseFor_eq]; rfl
  · split
    · rw [raiseFor_eq]
      unfold admitRecord
      dsimp only
      rw [supersedeHead_eq]
      rfl
    · unfold refuseFrame
      rw [report_eq]
      rfl

/-- A MARK delivered changes the mark area, the capture record and the SYNC counters, the mark store and the FORWARD
counters, and the note unit at most (R11). -/
theorem deliverMark_frame (s : State) :
    deliverMark s =
      { s with
        markArea := []
        sync := { s.sync with capture := (deliverMark s).sync.capture, counters := (deliverMark s).sync.counters }
        stores := { s.stores with mark := (deliverMark s).stores.mark, counters := (deliverMark s).stores.counters }
        notes := (deliverMark s).notes } := by
  unfold deliverMark storeMark captureMark
  dsimp only
  split
  · split
    · rw [report_eq]; rfl
    · rw [report_eq]; rfl
  · split <;> rfl

/-- A request offered changes the management area, the input queue, the MGMT counters and the note unit at most
(R127). -/
theorem offerRequest_frame (s : State) :
    offerRequest s =
      { s with
        mgmtArea := []
        mgmt := { s.mgmt with input := (offerRequest s).mgmt.input, counters := (offerRequest s).mgmt.counters }
        notes := (offerRequest s).notes } := by
  unfold offerRequest
  dsimp only
  split
  · rfl
  · rw [report_eq]; rfl

/-! ### The arbiters' decisions (R31, R99) -/

/-- The U transmitter arbiter grants nothing, or to an IDLE transmitter a returned frame, a reply or a note. -/
theorem arbiterU_cases (s : State) :
    arbiterU s = s ∨
    s.txU = none ∧
      ((∃ b q, s.stores.back = b :: q ∧ arbiterU s = grantBack b q s) ∨
       (∃ r, arbiterU s = grantReply r s) ∨
       (∃ r, noteOffered s.notes = some r ∧ arbiterU s = grantNote r s)) := by
  have hpart : grantPart s = s ∨ (∃ r, grantPart s = grantReply r s) ∨
      ∃ r, noteOffered s.notes = some r ∧ grantPart s = grantNote r s := by
    unfold grantPart
    split
    · exact .inr (.inl ⟨_, rfl⟩)
    · split
      · rename_i r hr; exact .inr (.inr ⟨r, hr, rfl⟩)
      · exact .inl rfl
  have hclass : arbiterU s = s ∨
      s.txU = none ∧ ((∃ b q, s.stores.back = b :: q ∧ arbiterU s = grantBack b q s) ∨ arbiterU s = grantPart s) := by
    unfold arbiterU
    split
    · exact .inl rfl
    · rename_i hu
      split
      · split
        · rename_i b q hb
          split
          · exact .inr ⟨hu, .inr rfl⟩
          · exact .inr ⟨hu, .inl ⟨b, q, hb, rfl⟩⟩
        · exact .inr ⟨hu, .inr rfl⟩
      · exact .inl rfl
  rcases hclass with he | ⟨hu, hb | he⟩
  · exact .inl he
  · exact .inr ⟨hu, .inl hb⟩
  · rw [he]
    rcases hpart with hp | hp
    · exact .inl hp
    · exact .inr ⟨hu, .inr hp⟩

/-- The D transmitter arbiter grants nothing, or to an IDLE transmitter the mark, the standing request's frame or the
head of the pass-through queue. -/
theorem arbiterD_cases (s : State) :
    arbiterD s = s ∨
    s.txD = none ∧
      ((∃ m, arbiterD s = grantMark m s) ∨
       (∃ w h q, s.engine.request = true ∧ s.engine.window = some w ∧ (s.stream w.stream).queue = h :: q ∧
          arbiterD s = grantRelease w h q s) ∨
       (∃ b q, s.stores.pass = b :: q ∧ arbiterD s = grantPass b q s)) := by
  have hpass : tryPass s = s ∨ ∃ b q, s.stores.pass = b :: q ∧ tryPass s = grantPass b q s := by
    unfold tryPass
    split
    · rename_i b q hb
      split
      · exact .inr ⟨b, q, hb, rfl⟩
      · exact .inl rfl
    · exact .inl rfl
  have hrel : tryRelease s = tryPass s ∨
      ∃ w h q, s.engine.request = true ∧ s.engine.window = some w ∧ (s.stream w.stream).queue = h :: q ∧
        tryRelease s = grantRelease w h q s := by
    unfold tryRelease
    split
    · rename_i w hr hw
      split
      · rename_i h q hq; exact .inr ⟨w, h, q, hr, hw, hq, rfl⟩
      · exact .inl rfl
    · exact .inl rfl
    · exact .inl rfl
  unfold arbiterD
  split
  · exact .inl rfl
  · rename_i hd
    split
    · split
      · exact .inr ⟨hd, .inl ⟨_, rfl⟩⟩
      · rcases hrel with he | hg
        · rw [he]
          rcases hpass with hp | hp
          · exact .inl hp
          · exact .inr ⟨hd, .inr (.inr hp)⟩
        · exact .inr ⟨hd, .inr (.inl hg)⟩
    · exact .inl rfl

/-! ### Requests, the engine's event and the wrap -/

/-- An invariant is kept by the taking of a request if it is kept by the effects and does not look at what the
management unit and a report change. -/
theorem answered_keeps {I : State → Prop} (heffect : ∀ {s t}, I s → Effect s t → I t)
    (hmgmt : ∀ {s} m, I s → I { s with mgmt := m }) (hreport : ∀ {s} o, I s → I (report o s))
    {f : FrameBytes} {s t : State} (hs : I s) (ht : Answered f (takeHead s) t) : I t := by
  have hhead : I (takeHead s) := hmgmt _ hs
  cases ht with
  | reply a he =>
    have hcount : I (countExecuted a.state) := hmgmt _ (heffect hhead he)
    exact hmgmt _ hcount
  | broadcast a he =>
    have hcount : I (countExecuted a.state) := hmgmt _ (heffect hhead he)
    unfold answerBroadcast
    dsimp only
    split
    · exact hcount
    · exact hreport _ hcount
  | replay =>
    have hcount : ∀ c, I (countMgmt c (takeHead s)) := fun c => hmgmt _ hhead
    unfold replayRequest
    dsimp only
    split
    · exact hmgmt _ (hcount _)
    · exact hcount _
  | ignore => exact hmgmt _ hhead
  | restart =>
    have hcount : I (countExecuted (takeHead s)) := hmgmt _ hhead
    exact hmgmt _ hcount

/-- The release engine's event is a close, a take, or a close and then a take (R87). -/
theorem engineEvent_keeps {I : State → Prop} (hclose : ∀ {s}, I s → I (closeWindow s))
    (htake : ∀ {s}, I s → I (takeSlot s)) {s : State} (hs : I s) : I (engineEvent s) := by
  have hc : I (if closeDue s then closeWindow s else s) := by
    split
    · exact hclose hs
    · exact hs
  unfold engineEvent
  extract_lets u
  split
  · exact htake hc
  · exact hc

theorem reportTimes_keeps {I : State → Prop} (hreport : ∀ {s} o, I s → I (report o s)) (n : Nat) (o : Occurrence)
    {s : State} (hs : I s) : I (reportTimes n o s) := by
  induction n generalizing s with
  | zero => exact hs
  | succ n ih => exact ih (hreport o hs)

/-- What falls amid the ageing of one entry is made of reports, the note unit's action and a grant on port U (R156). -/
theorem reportAmid_keeps {I : State → Prop} (hreport : ∀ {s} o, I s → I (report o s))
    (hnotes : ∀ {s}, I s → I (noteWait s)) (hgrant : ∀ {s}, I s → I (arbiterU s)) (i : StreamId) (k : Nat)
    (before : State) (acts grants : Bool) (n : Nat) {s : State} (hs : I s) :
    I (reportAmid i k (amidAgeing before acts grants) n s) := by
  have hamid : ∀ {t}, I t → I (amidAgeing before acts grants t) := by
    intro t ht
    have hacts : I (if acts then noteWait t else t) := by
      split
      · exact hnotes ht
      · exact ht
    unfold amidAgeing
    dsimp only
    split
    · rcases decideU_cases before (if acts then noteWait t else t) with ⟨-, he⟩ | ⟨-, he⟩ <;> rw [he]
      · exact hgrant hacts
      · exact hacts
    · exact hacts
  exact reportTimes_keeps hreport _ _ (hamid (reportTimes_keeps hreport _ _ hs))

/-! ### Completions on port U (R14, R33, R141) -/

/-- The port U transmitter is IDLE and TX_FRAMES has risen (R14). -/
def idledU (s : State) : State :=
  countPort .u (fun c => { c with txFrames := c.txFrames + 1 }) { s with txU := none }

/-- A completion on port U frees a returned frame's buffer, makes a restart take effect, frees an outbox entry, or
leaves the note awaiting its acknowledgement (R33, R141). -/
theorem completeU_cases (t : Transmission SourceU) (s : State) :
    (∃ x, t.source = .back x ∧
      completeU t s =
        countForward (fun c => { c with returnForwarded := c.returnForwarded + 1 }) (freeBuf x (idledU s))) ∨
    t.source = .reply ∧
      (completeU t s = idledU s ∨ completeU t s = restartValues (idledU s) ∨
        s.mgmt.outbox ≠ [] ∧ completeU t s = { idledU s with mgmt := replyFreed s.mgmt }) ∨
    t.source = .note ∧ completeU t s = { idledU s with notes := noteCompleted s.notes } := by
  unfold completeU
  cases t.source with
  | back x => exact .inl ⟨x, rfl, rfl⟩
  | note => exact .inr (.inr ⟨rfl, rfl⟩)
  | reply =>
    refine .inr (.inl ⟨rfl, ?_⟩)
    show replyCompleted (idledU s) = _ ∨ replyCompleted (idledU s) = _ ∨ _ ∧ replyCompleted (idledU s) = _
    have hm : (idledU s).mgmt = s.mgmt := rfl
    unfold replyCompleted
    rw [hm]
    split
    · rename_i r q ho
      split
      · exact .inr (.inl rfl)
      · exact .inr (.inr ⟨by simp [ho], rfl⟩)
    · exact .inl rfl

/-! ### Power and its conditions (R172) -/

/-- Power, and the conditions of power-on. -/
def powerView (s : State) := (s.power, s.conditions)

theorem powerView_setPort (p : Port) (x : PortState) (s : State) : powerView (s.setPort p x) = powerView s := by
  cases p <;> rfl

theorem powerView_report (o : Occurrence) (s : State) : powerView (report o s) = powerView s := by
  rw [report_eq]; rfl

theorem powerView_lines (v : Power × Conditions) : KeptOnLines fun s => powerView s = v where
  port _ _ hs := (powerView_setPort _ _ _).trans hs
  report _ hs := (powerView_report _ _).trans hs
  buffers _ _ _ hs := hs
  counters _ hs := hs
  pass _ hs := by unfold passAppend; split <;> exact hs
  back _ hs := by unfold backAppend; split <;> exact hs
  admission _ _ hs := by rw [admitFrame_eq]; exact hs
  mark hs := by rw [deliverMark_frame]; exact hs
  offer hs := by rw [offerRequest_frame]; exact hs

theorem powerView_effect {s t : State} (h : Effect s t) : powerView t = powerView s := by
  cases h with
  | deleteStream =>
    unfold deleteStream
    dsimp only
    rw [detach_eq, purgeQueue_eq]
    rfl
  | purge => rw [purgeQueue_eq]; rfl
  | hold limit => unfold beginHold; dsimp only; rw [gateEnds_eq]; rfl
  | configureSync => rw [gateEnds_eq, reportSync_eq]; rfl
  | zero g =>
    cases g with
    | port p => exact powerView_setPort p _ s
    | _ => rfl
  | _ => rfl

theorem powerView_completeU (t : Transmission SourceU) (s : State) : powerView (completeU t s) = powerView s := by
  rcases completeU_cases t s with ⟨x, -, he⟩ | ⟨-, he | he | ⟨-, he⟩⟩ | ⟨-, he⟩ <;> rw [he] <;> rfl

theorem powerView_completeD (t : Transmission SourceD) (s : State) : powerView (completeD t s) = powerView s := by
  rw [completeD_eq]
  cases t.source <;> rfl

theorem powerView_event {s t : State} (h : Event s t) : powerView t = powerView s := by
  cases h with
  | header p b => exact (powerView_lines _).header p b rfl
  | frameEnd p b => exact (powerView_lines _).frameEnd p b rfl
  | link p l => exact (powerView_lines _).link p l rfl
  | completeD => exact powerView_completeD _ s
  | completeU => exact powerView_completeU _ s
  | engine => rw [engineEvent_eq]; rfl
  | request _ ht =>
    exact answered_keeps (I := fun t => powerView t = powerView s) (fun hs he => (powerView_effect he).trans hs)
      (fun _ hs => hs) (fun _ hs => (powerView_report _ _).trans hs) rfl ht

theorem powerView_quiet {s t : State} (h : Quiet s t) : powerView t = powerView s := by
  cases h with
  | byte p b => exact (powerView_lines _).byte p b rfl
  | _ => rfl

theorem powerView_arbiterU (s : State) : powerView (arbiterU s) = powerView s := by rw [arbiterU_eq]; rfl

theorem powerView_arbiterD (s : State) : powerView (arbiterD s) = powerView s := by rw [arbiterD_eq]; rfl

/-- The ageing of one entry changes the stream table, the pool and the request, and what the reports change (R44). -/
theorem ageStream_cases (i : StreamId) (reports : Nat → State → State) (s : State) :
    ageStream i reports s = reports 0 s ∨
    (s.stream i).valid = true ∧ ∃ n c,
      ageStream i reports s =
        withdrawIfEmpty i (reports n
          (countStream i c
            (freeBufs ((staleAt (s.stream i)).map Held.buffer)
              (setQueue i (((s.stream i).queue.map aged).filter fun r => !isStale (s.stream i).ageLimit r) s)))) := by
  unfold ageStream
  dsimp only
  split
  · rename_i hv; exact .inr ⟨hv, _, _, rfl⟩
  · exact .inl rfl

theorem powerView_ageStream (i : StreamId) {reports : Nat → State → State}
    (h : ∀ n s, powerView (reports n s) = powerView s) (s : State) : powerView (ageStream i reports s) = powerView s := by
  rcases ageStream_cases i reports s with he | ⟨-, n, c, he⟩ <;> rw [he]
  · exact h 0 s
  · rw [withdrawIfEmpty_eq]
    refine (h _ _).trans ?_
    rw [freeBufs_eq]
    rfl

theorem powerView_wrapAct (before : State) (k : WrapPlan) (a : WrapAct) (s : State) :
    powerView (wrapAct before k a s) = powerView s := by
  cases a with
  | sync =>
    show powerView (syncAct k s) = _
    unfold syncAct
    dsimp only
    rw [gateEnds_eq, reportSync_eq]
    rfl
  | plan =>
    show powerView (planAct k s) = _
    unfold planAct
    split
    · exact powerView_report _ _
    · dsimp only
      split
      · exact powerView_report _ _
      · rfl
  | close => show powerView (closeWindow s) = _; rw [closeWindow_eq]; rfl
  | age i => exact powerView_ageStream i (fun n t => by rw [reportTimes_eq]; rfl) s
  | notes => rfl
  | grantU =>
    show powerView (decideU before s) = _
    rcases decideU_cases before s with ⟨-, he⟩ | ⟨-, he⟩ <;> rw [he]
    exact powerView_arbiterU s
  | ageAmid i k acts grants =>
    refine powerView_ageStream i (fun n t => ?_) s
    exact reportAmid_keeps (I := fun u => powerView u = powerView t) (fun o hu => (powerView_report o _).trans hu)
      (fun hu => hu) (fun hu => (powerView_arbiterU _).trans hu) i k before acts grants n rfl
  | unit => rfl

/-- Nothing that happens in a running part changes power or the conditions of power-on. -/
theorem powerView_kept (v : Power × Conditions) : KeptByBlocks fun s => powerView s = v where
  quiet hs h := (powerView_quiet h).trans hs
  event hs h := (powerView_event h).trans hs
  arbiterU hs := (powerView_arbiterU _).trans hs
  arbiterD hs := (powerView_arbiterD _).trans hs
  begin _ hs := hs
  act _ _ _ hs := (powerView_wrapAct _ _ _ _).trans hs
  copy _ hs := by unfold copyPlan; split <;> exact hs
  rewind hs := hs

/-! ### The step of the part -/

/-- The bounds of the conditions of power-on (R172). -/
structure ConditionsBounded (c : Conditions) : Prop where
  samples : c.highSamples ≤ 2
  elapsed : c.elapsed ≤ 4096
  counted : c.elapsed ≠ 0 → c.supplies = true ∧ c.refclk = true ∧ c.highSamples = 2

theorem conditions_glitch_bounded {c : Conditions} (h : ConditionsBounded c) : ConditionsBounded c.glitch := by
  unfold Conditions.glitch
  split
  · rename_i hlow
    exact ⟨Nat.zero_le _, h.elapsed, fun h0 => absurd (h.counted h0).2.2 (Nat.ne_of_lt hlow)⟩
  · exact h

theorem conditions_tick_bounded {c : Conditions} (h : ConditionsBounded c) : ConditionsBounded c.tick := by
  rcases conditions_tick_cases c with ⟨-, he⟩ | ⟨hr, hg, he⟩ | ⟨-, -, he⟩ <;> rw [he]
  · exact h
  · simp only [Conditions.good, Bool.and_eq_true, decide_eq_true_eq] at hg
    obtain ⟨⟨hsupplies, -⟩, hsamples⟩ := hg
    exact ⟨h.samples, Nat.min_le_left _ _, fun _ => ⟨hsupplies, hr, Nat.le_antisymm h.samples hsamples⟩⟩
  · refine ⟨?_, Nat.zero_le _, fun h0 => absurd rfl h0⟩
    dsimp only
    split <;> omega

/-- POWER_ON begins power-on, changes the conditions of a power-on in progress, or does nothing; it keeps the bounds of
the conditions (R172). -/
theorem execPowerOn_cases {cause : PowerCause} {s t : State} (h : execPowerOn cause s = .next t) :
    ∃ c, (ConditionsBounded s.conditions → ConditionsBounded c) ∧
      (t = beginPowerOn c s ∨ s.power = .poweringOn ∧ t = { s with conditions := c } ∨ t = s) := by
  have hchange : ∀ c, changeConditions c s = s ∨
      s.power = .poweringOn ∧ changeConditions c s = { s with conditions := c } := by
    intro c
    unfold changeConditions
    cases s.power with
    | running => exact .inl rfl
    | poweringOn => exact .inr ⟨rfl, rfl⟩
  have hlift : ∀ {c : Conditions}, changeConditions c s = t →
      t = beginPowerOn c s ∨ s.power = .poweringOn ∧ t = { s with conditions := c } ∨ t = s := by
    rintro c rfl
    rcases hchange c with he | he
    · exact .inr (.inr he)
    · exact .inr (.inl he)
  unfold execPowerOn at h
  injection h with h
  cases cause with
  | supplyDrop =>
    refine ⟨_, ?_, .inl h.symm⟩
    exact fun hb => ⟨hb.samples, Nat.zero_le _, fun h0 => absurd rfl h0⟩
  | refclkStop =>
    refine ⟨_, ?_, .inl h.symm⟩
    exact fun hb => ⟨hb.samples, Nat.zero_le _, fun h0 => absurd rfl h0⟩
  | suppliesGood =>
    refine ⟨_, ?_, hlift h⟩
    exact fun hb => ⟨hb.samples, hb.elapsed, fun h0 => ⟨rfl, (hb.counted h0).2⟩⟩
  | refclkRuns =>
    refine ⟨_, ?_, hlift h⟩
    exact fun hb => ⟨hb.samples, hb.elapsed, fun h0 => ⟨(hb.counted h0).1, rfl, (hb.counted h0).2.2⟩⟩
  | resetHigh =>
    refine ⟨_, ?_, hlift h⟩
    exact fun hb => ⟨hb.samples, hb.elapsed, hb.counted⟩
  | resetLow n =>
    dsimp only at h
    split at h
    · refine ⟨_, ?_, .inl h.symm⟩
      exact fun hb => ⟨Nat.zero_le _, Nat.zero_le _, fun h0 => absurd rfl h0⟩
    · split at h
      · exact ⟨_, conditions_glitch_bounded, hlift h⟩
      · exact ⟨s.conditions, id, .inr (.inr h.symm)⟩

/-- An invariant of the part, from an invariant of the running part: `I` is what `P` says while the part runs. -/
structure Lifts (I P : State → Prop) : Prop where
  kept : KeptByEvents I
  running : ∀ {s}, s.power = .running → (P s ↔ I s)
  pending : ∀ {s} rest, P s → P { s with pending := rest }
  begins : ∀ {s c}, (ConditionsBounded s.conditions → ConditionsBounded c) → P s → P (beginPowerOn c s)
  conditions : ∀ {s c}, s.power = .poweringOn → (ConditionsBounded s.conditions → ConditionsBounded c) → P s →
    P { s with conditions := c }
  values : ∀ straps s, I (powerOnValues straps s)

namespace Lifts

variable {I P : State → Prop} (h : Lifts I P)
include h

theorem exec_powerOn {cause : PowerCause} {s t : State} (hs : P s) (he : execPowerOn cause s = .next t) : P t := by
  obtain ⟨c, hc, rfl | ⟨hp, rfl⟩ | rfl⟩ := execPowerOn_cases he
  · exact h.begins hc hs
  · exact h.conditions hp hc hs
  · exact hs

theorem exec_running {c : Instr} {s t : State} (hrun : s.power = .running) (hs : P s) (he : exec c s = .next t) :
    P t := by
  by_cases hc : ∃ cause, c = .powerOn cause
  · obtain ⟨cause, rfl⟩ := hc
    exact h.exec_powerOn hs he
  · have hcs : ∀ cause, c ≠ .powerOn cause := fun cause e => hc ⟨cause, e⟩
    have hview : powerView t = powerView s := (powerView_kept (powerView s)).events.exec hcs hrun rfl he
    have hrunt : t.power = .running := (congrArg Prod.fst hview).trans hrun
    exact (h.running hrunt).2 (h.kept.exec hcs hrun ((h.running hrun).1 hs) he)

/-- The first reports of the lines find a part that runs with its power-on values (R15, R172). -/
theorem firstReports (straps : NodeAddr) (s : State) (linkU linkD : Link) (dFirst : Bool) :
    P (firstReports linkU linkD dFirst (powerOnValues straps s)) := by
  have hview := (powerView_kept (powerView (powerOnValues straps s))).events.firstReports linkU linkD dFirst rfl
  exact (h.running (congrArg Prod.fst hview)).2 (h.kept.firstReports linkU linkD dFirst (h.values straps s))

/-- While power-on is in progress no command acts but POWER_ON, POWER_ON_COMPLETE and TICK (R172). -/
theorem exec_poweringOn {c : Instr} {s t : State} (hp : s.power = .poweringOn) (hs : P s) (he : exec c s = .next t) :
    P t := by
  have hrun : s.power ≠ .running := by simp [hp]
  have hrec : ∀ p, receives p s = false := fun p => by simp [receives, hp]
  have hnext : nextRequest s = none := by simp [nextRequest, hp]
  have htake : ∀ r run, takeRequest r run s = s := fun r run => by simp [takeRequest, hnext]
  have hwrap : ∀ cond order, wrapWhen cond order s = s := fun cond order => by simp [wrapWhen, hp]
  cases c with
  | powerOn cause => exact h.exec_powerOn hs he
  | powerOnComplete n straps linkU linkD dFirst =>
    injection he with he
    subst he
    split
    · exact h.firstReports straps s linkU linkD dFirst
    · exact hs
  | tick =>
    have hexec : execTick s = .next { s with conditions := s.conditions.tick } := by
      unfold execTick
      split
      · rename_i hr; exact absurd hr hrun
      · rfl
    injection hexec.symm.trans he with he
    subst he
    exact h.conditions hp conditions_tick_bounded hs
  | linkChange p l => injection he with he; rw [if_neg hrun] at he; exact he ▸ hs
  | cycFall => injection he with he; rw [if_neg hrun] at he; exact he ▸ hs
  | transmissionComplete p => injection he with he; rw [if_neg hrun] at he; exact he ▸ hs
  | slotTake => injection he with he; rw [if_neg fun hc => hrun hc.1] at he; exact he ▸ hs
  | windowClose => injection he with he; rw [if_neg fun hc => hrun hc.1] at he; exact he ▸ hs
  | headerTime p b => injection he with he; rw [hrec, Bool.false_and] at he; exact he ▸ hs
  | frameEnd p b => injection he with he; rw [hrec] at he; exact he ▸ hs
  | firstByteOfFrame p b => injection he with he; rw [hrec] at he; exact he ▸ hs
  | wrap order => injection he with he; exact he ▸ (hwrap _ _).symm ▸ hs
  | missLimitReached order => injection he with he; exact he ▸ (hwrap _ _).symm ▸ hs
  | holdoverLimitReached order => injection he with he; exact he ▸ (hwrap _ _).symm ▸ hs
  | staleRemoval order => injection he with he; exact he ▸ (hwrap _ _).symm ▸ hs
  | holdExpiry order => injection he with he; exact he ▸ (hwrap _ _).symm ▸ hs
  | noteTimeout order => injection he with he; exact he ▸ (hwrap _ _).symm ▸ hs
  | _ => injection he with he; exact (htake _ _).symm.trans he ▸ hs

theorem step {s s' : State} (hs : P s) (he : step s = .next s') : P s' := by
  rcases step_cases he with ⟨-, rfl⟩ | ⟨c, rest, -, hexec⟩
  · exact hs
  · cases hp : s.power with
    | running => exact h.exec_running (s := { s with pending := rest }) hp (h.pending rest hs) hexec
    | poweringOn => exact h.exec_poweringOn (s := { s with pending := rest }) hp (h.pending rest hs) hexec

end Lifts

end Sys2Proof.Invariants
end

section
/-! PROOF. The capacities of the stores, the queues and the note queue, the coherence of the management unit, and the
settling of the obligation on them (R25, R27, R127, R128, R132, R133, R148, R172). -/

namespace Sys2Proof.Invariants

open Sys2Proof.Machine Sys2Proof.Safety Sys2Proof.Claims Sys2Proof.Link

/-! ### The note queue (R148, R153 to R155, R160) -/

/-- The note queue holds at most 16 records (R148). -/
def NotesFit (n : Notes) : Prop := n.queue.length ≤ 16

theorem recordOccurrence_fits {n : Notes} (h : NotesFit n) (o : Occurrence) (c : Cycle) :
    NotesFit (recordOccurrence o c n) := by
  unfold NotesFit at h ⊢
  rcases recordOccurrence_cases o c n with ⟨q, hq, he⟩ | he <;> rw [he]
  · obtain ⟨pre, r, post, hpre, -, -, rfl⟩ := coalesceInto_some hq
    rw [hpre] at h
    simpa using h
  · unfold appendOrLose
    split
    · rename_i hroom
      rw [List.length_append]
      exact hroom
    · exact h

/-- A record's leaving makes room for the LOST record it may append (R155). -/
theorem afterLeaving_fits {n : Notes} (h : n.queue.length ≤ 15) (full : Bool) (c : Cycle) :
    NotesFit (afterLeaving full c n) := by
  unfold NotesFit afterLeaving
  split
  · rw [List.length_append]
    exact Nat.add_le_add_right h 1
  · exact Nat.le_succ_of_le h

theorem headLeaves_fits {n : Notes} (h : NotesFit n) (c : Cycle) : NotesFit (headLeaves c n) :=
  afterLeaving_fits (by rw [List.length_tail]; exact Nat.sub_le_of_le_add h) _ c

theorem ackLeaves_fits {n : Notes} (h : NotesFit n) {q : BitVec 8}
    (hq : (n.queue.any fun r => r.seq == some q) = true) (c : Cycle) : NotesFit (ackLeaves q c n) := by
  obtain ⟨r, hr, hseq⟩ := List.any_eq_true.1 hq
  refine afterLeaving_fits ?_ _ c
  show (n.queue.eraseP fun r => r.seq == some q).length ≤ 15
  rw [List.length_eraseP_of_mem hr hseq]
  exact Nat.sub_le_of_le_add h

theorem notesAct_fits {n : Notes} (h : NotesFit n) (c : Cycle) : NotesFit (notesAct c n) := by
  have hsame : ∀ {r r' : NoteRecord} {rs : List NoteRecord}, n.queue = r :: rs → (r' :: rs).length ≤ 16 := by
    intro r r' rs hq
    unfold NotesFit at h
    rw [hq] at h
    exact h
  unfold notesAct
  split
  · rename_i r rs hq
    split
    · split
      · exact hsame hq
      · exact headLeaves_fits (by exact h) c
    · split
      · exact hsame hq
      · exact h
  · exact h

theorem noteCompleted_fits {n : Notes} (h : NotesFit n) : NotesFit (noteCompleted n) := by
  unfold NotesFit at h ⊢
  cases hq : n.queue with
  | nil => simp [noteCompleted_of_empty hq]
  | cons r q => rw [hq] at h; simpa [noteCompleted_of_head hq] using h

theorem notesGranted_fits {n : Notes} (h : NotesFit n) {r : NoteRecord} (hr : noteOffered n = some r) :
    NotesFit (notesGranted n r n.queue.tail) := by
  unfold NotesFit at h
  unfold noteOffered at hr
  split at hr
  · rename_i x rs hq
    show (sentRecord n r :: n.queue.tail).length ≤ 16
    rw [hq] at h ⊢
    exact h
  · cases hr

/-! ### The management unit (R127, R128, R132, R133) -/

/-- The capacities of the input queue and the outbox, and the unit's coherence. -/
structure MgmtFits (m : Mgmt) : Prop where
  input : m.input.length ≤ 4
  outbox : m.outbox.length ≤ 2
  unit : UnitCoherent m

/-- What is placed in an outbox that has room leaves a part waiting only behind two frames (R132, R133). -/
theorem placeReplies_parts {m : Mgmt} (h : m.parts = []) (rs : List Reply) (ho : m.outbox.length ≤ 2) :
    (placeReplies rs m).parts ≠ [] → (placeReplies rs m).outbox.length = 2 := by
  intro hp
  have hlen : 2 - m.outbox.length < rs.length := by
    by_contra hle
    simp [placeReplies, h, List.drop_eq_nil_of_le (Nat.le_of_not_lt hle)] at hp
  simp only [placeReplies, List.length_append, List.length_take, Config.outboxCapacity]
  omega

/-- The state the unit takes from the room in its outbox is coherent with it (R128). -/
theorem unitByRoom_coherent {m : Mgmt} (ho : m.outbox.length ≤ 2) (hp : m.parts ≠ [] → m.outbox.length = 2) :
    UnitCoherent { m with mode := unitByRoom m } := by
  have hfull : (decide (2 ≤ m.outbox.length) || !m.parts.isEmpty) = true ↔ m.outbox.length = 2 := by
    simp only [Bool.or_eq_true, decide_eq_true_eq, Bool.not_eq_true', List.isEmpty_eq_false_iff]
    constructor
    · rintro (h | h)
      · omega
      · exact hp h
    · exact fun h => .inl (by omega)
  by_cases h : m.outbox.length = 2
  · have hmode : unitByRoom m = .stalled := if_pos (hfull.2 h)
    rw [hmode]
    exact ⟨fun hr => (by cases hr), fun _ => h, fun _ => h⟩
  · have hmode : unitByRoom m = .ready := if_neg (mt hfull.1 h)
    rw [hmode]
    have hparts : m.parts = [] := by by_contra hne; exact h (hp hne)
    exact ⟨fun _ => ⟨by show m.outbox.length < 2; omega, hparts⟩, fun hs => (by cases hs), hp⟩

/-- A READY unit that places replies is settled by the room left (R128, R132, R133). -/
theorem settleUnit_fits {m : Mgmt} (h : MgmtFits m) (hr : m.mode = .ready) (rs : List Reply) :
    MgmtFits (settleUnit (placeReplies rs m)) := by
  obtain ⟨hroom, hparts⟩ := h.unit.ready hr
  have ho := placeReplies_outbox rs h.outbox
  exact ⟨h.input, ho, unitByRoom_coherent ho (placeReplies_parts hparts rs h.outbox)⟩

/-- A frame that leaves the outbox makes room for one part; a part still waits only behind two frames (R33, R133). -/
theorem replyFreed_fits {m : Mgmt} (h : MgmtFits m) : MgmtFits (replyFreed m) := by
  obtain ⟨mode, input, outbox, parts, cache, unmatched, guardMargin, counters⟩ := m
  obtain ⟨hin, hout, hready, hstalled, hparts⟩ := h
  dsimp only at hin hout hready hstalled hparts
  cases parts with
  | nil =>
    have htail : outbox.tail.length < 2 := by rw [List.length_tail]; omega
    cases mode with
    | stalled => exact ⟨hin, htail.le, unitByRoom_coherent htail.le (fun hp => absurd rfl hp)⟩
    | ready => exact ⟨hin, htail.le, fun _ => ⟨htail, rfl⟩, fun hs => (by cases hs), fun hp => absurd rfl hp⟩
    | restarting => exact ⟨hin, htail.le, fun hr => (by cases hr), fun hs => (by cases hs), fun hp => absurd rfl hp⟩
  | cons r rs =>
    have htwo : outbox.length = 2 := hparts (List.cons_ne_nil r rs)
    have hlen : (outbox.tail ++ [r]).length = 2 := by simp [htwo]
    cases mode with
    | stalled => exact ⟨hin, hlen.le, unitByRoom_coherent hlen.le (fun _ => hlen)⟩
    | ready => exact absurd (hready rfl).2 (List.cons_ne_nil r rs)
    | restarting => exact ⟨hin, hlen.le, fun hr => (by cases hr), fun hs => (by cases hs), fun _ => hlen⟩

/-! ### All of them, as an invariant of the running part -/

/-- The pass-through queue and the return queue keep their capacities (R25, R27). -/
def QueuesFit (x : Stores) : Prop := x.pass.length ≤ 12 ∧ x.back.length ≤ 16

/-- The queues, the note queue and the management unit keep their capacities, and the unit is coherent. -/
def Fits (s : State) : Prop := NotesFit s.notes ∧ QueuesFit s.stores ∧ MgmtFits s.mgmt

theorem fits_report {s : State} (o : Occurrence) (h : Fits s) : Fits (report o s) := by
  obtain ⟨hnotes, hrest⟩ := h
  rw [report_eq]
  refine ⟨?_, hrest⟩
  rcases report_notes o s with he | he <;> rw [he]
  · exact hnotes
  · exact recordOccurrence_fits hnotes o _

theorem fits_setPort {s : State} (p : Port) (x : PortState) (h : Fits s) : Fits (s.setPort p x) := by
  cases p <;> exact h

theorem fits_passAppend {s : State} (b : BufId) (h : Fits s) : Fits (passAppend b s) := by
  obtain ⟨hnotes, ⟨hpass, hback⟩, hmgmt⟩ := h
  unfold passAppend
  split
  · rename_i hroom
    refine ⟨hnotes, ⟨?_, hback⟩, hmgmt⟩
    show (s.stores.pass ++ [b]).length ≤ 12
    rw [List.length_append]
    exact hroom
  · exact ⟨hnotes, ⟨hpass, hback⟩, hmgmt⟩

theorem fits_backAppend {s : State} (b : BufId) (h : Fits s) : Fits (backAppend b s) := by
  obtain ⟨hnotes, ⟨hpass, hback⟩, hmgmt⟩ := h
  unfold backAppend
  split
  · rename_i hroom
    refine ⟨hnotes, ⟨hpass, ?_⟩, hmgmt⟩
    show (s.stores.back ++ [b]).length ≤ 16
    rw [List.length_append]
    exact hroom
  · exact ⟨hnotes, ⟨hpass, hback⟩, hmgmt⟩

theorem fits_supersedeHead {s : State} (i : StreamId) (h : Fits s) : Fits (supersedeHead i s) := by
  unfold supersedeHead
  split
  · exact fits_report _ h
  · exact h

theorem fits_admitFrame {s : State} (i : StreamId) (b : BufId) (h : Fits s) : Fits (admitFrame i b s) := by
  unfold admitFrame
  dsimp only
  split
  · rw [raiseFor_eq]; exact h
  · split
    · rw [raiseFor_eq]
      exact fits_supersedeHead i (s := countStream i _ s) h
    · exact fits_report _ h

theorem fits_deliverMark {s : State} (h : Fits s) : Fits (deliverMark s) := by
  have hstore : ∀ {t : State} (m : FrameBytes), Fits t → Fits (storeMark m t) := by
    intro t m ht
    unfold storeMark
    dsimp only
    split <;> exact ht
  refine hstore _ ?_
  unfold captureMark
  dsimp only
  split
  · exact fits_report _ h
  · exact h

theorem fits_offerRequest {s : State} (h : Fits s) : Fits (offerRequest s) := by
  obtain ⟨hnotes, hqueues, hmgmt⟩ := h
  unfold offerRequest
  dsimp only
  split
  · rename_i hroom
    have hin : (s.mgmt.input ++ [s.mgmtArea]).length ≤ 4 := by rw [List.length_append]; exact hroom
    obtain ⟨hready, hstalled, hparts⟩ := hmgmt.unit
    exact ⟨hnotes, hqueues, hin, hmgmt.outbox, hready, hstalled, hparts⟩
  · obtain ⟨hready, hstalled, hparts⟩ := hmgmt.unit
    exact fits_report _ ⟨hnotes, hqueues, hmgmt.input, hmgmt.outbox, hready, hstalled, hparts⟩

theorem fits_lines : KeptOnLines Fits where
  port p x hs := fits_setPort p x hs
  report o hs := fits_report o hs
  buffers _ _ _ hs := hs
  counters _ hs := hs
  pass b hs := fits_passAppend b hs
  back b hs := fits_backAppend b hs
  admission b _ hs := fits_admitFrame _ b hs
  mark hs := fits_deliverMark hs
  offer hs := fits_offerRequest hs

theorem fits_gateEnds {before after : State} (h : Fits after) : Fits (gateEnds before after) := by
  rw [gateEnds_eq]; exact h

theorem fits_reportSync {s : State} (old : SyncMode) (h : Fits s) : Fits (reportSync old s) := by
  unfold reportSync
  split
  · exact h
  · exact fits_report _ h

/-- A change of the management unit that leaves its state, its input queue, its outbox and its part store. -/
theorem MgmtFits.congr {m n : Mgmt} (h : MgmtFits m) (hmode : n.mode = m.mode) (hin : n.input = m.input)
    (hout : n.outbox = m.outbox) (hparts : n.parts = m.parts) : MgmtFits n := by
  obtain ⟨i, o, r, s, p⟩ := h
  rw [← hin] at i
  rw [← hout] at o r s p
  rw [← hmode] at r s
  rw [← hparts] at r p
  exact ⟨i, o, r, s, p⟩

theorem fits_effect {s t : State} (h : Fits s) (he : Effect s t) : Fits t := by
  obtain ⟨hnotes, hqueues, hmgmt⟩ := h
  cases he with
  | deleteStream =>
    unfold deleteStream
    dsimp only
    rw [detach_eq, purgeQueue_eq]
    exact ⟨hnotes, hqueues, hmgmt⟩
  | purge => rw [purgeQueue_eq]; exact ⟨hnotes, hqueues, hmgmt⟩
  | hold limit => exact fits_gateEnds ⟨hnotes, hqueues, hmgmt⟩
  | configureSync => exact fits_gateEnds (fits_reportSync _ ⟨hnotes, hqueues, hmgmt⟩)
  | zero g =>
    cases g with
    | port p => exact fits_setPort p _ ⟨hnotes, hqueues, hmgmt⟩
    | mgmt => exact ⟨hnotes, hqueues, hmgmt.congr rfl rfl rfl rfl⟩
    | _ => exact ⟨hnotes, hqueues, hmgmt⟩
  | ackNote hq => exact ⟨ackLeaves_fits hnotes hq _, hqueues, hmgmt⟩
  | configurePass => exact ⟨hnotes, hqueues, hmgmt.congr rfl rfl rfl rfl⟩
  | _ => exact ⟨hnotes, hqueues, hmgmt⟩

/-- No effect of a request's owner changes the unit's state: it is READY until the reply is placed (R128). -/
theorem effect_mode {s t : State} (he : Effect s t) : t.mgmt.mode = s.mgmt.mode := by
  cases he with
  | deleteStream =>
    unfold deleteStream
    dsimp only
    rw [detach_eq, purgeQueue_eq]
    rfl
  | purge => rw [purgeQueue_eq]
  | hold limit => unfold beginHold; dsimp only; rw [gateEnds_eq]; rfl
  | configureSync => rw [gateEnds_eq, reportSync_eq]
  | zero g =>
    cases g with
    | port p => cases p <;> rfl
    | _ => rfl
  | _ => rfl

theorem fits_answered {f : FrameBytes} {s t : State} (h : Fits s) (hr : s.mgmt.mode = .ready)
    (ht : Answered f (takeHead s) t) : Fits t := by
  obtain ⟨hnotes, hqueues, hmgmt⟩ := h
  obtain ⟨hready, hstalled, hparts⟩ := hmgmt.unit
  have hin : s.mgmt.input.tail.length ≤ 4 := by
    rw [List.length_tail]; exact (Nat.sub_le _ _).trans hmgmt.input
  have hhead : Fits (takeHead s) := ⟨hnotes, hqueues, hin, hmgmt.outbox, hready, hstalled, hparts⟩
  have hcount : ∀ {u : State} {f}, Fits u → Fits (countMgmt f u) := fun ⟨hn, hq, hm⟩ =>
    ⟨hn, hq, hm.congr rfl rfl rfl rfl⟩
  have hplace : ∀ {u : State} (c : Option CacheEntry) (rs : List Reply), Fits u → u.mgmt.mode = .ready →
      Fits { u with mgmt := settleUnit (placeReplies rs { u.mgmt with cache := c }) } :=
    fun {u} c rs ⟨hn, hq, hm⟩ hu =>
      ⟨hn, hq, settleUnit_fits (m := { u.mgmt with cache := c }) (hm.congr rfl rfl rfl rfl) hu rs⟩
  cases ht with
  | reply a he => exact hplace _ _ (hcount (fits_effect hhead he)) ((effect_mode he).trans hr)
  | broadcast a he =>
    unfold answerBroadcast
    dsimp only
    split
    · exact hcount (fits_effect hhead he)
    · exact fits_report _ (hcount (fits_effect hhead he))
  | replay =>
    unfold replayRequest
    dsimp only
    split
    · exact hplace _ _ (hcount hhead) hr
    · exact hcount hhead
  | ignore => exact hcount hhead
  | restart =>
    have hroom := hready hr
    refine ⟨hnotes, hqueues, hin, placeReplies_outbox _ hmgmt.outbox, fun hm => (by cases hm), fun hm => (by cases hm), ?_⟩
    exact placeReplies_parts (m := { (countExecuted (takeHead s)).mgmt with cache := _ }) hroom.2 _ hmgmt.outbox

theorem fits_closeWindow {s : State} (h : Fits s) : Fits (closeWindow s) := by
  have hmissed : Fits (missedCheck s) := by
    unfold missedCheck
    split
    · split
      · exact fits_report _ h
      · exact h
    · exact h
  unfold closeWindow
  rcases endWindow_eq (missedCheck s) with ⟨-, he⟩ | ⟨w, -, he⟩ <;> rw [he] <;> exact hmissed

theorem startedQueue_fits (addressed : Bool) (cause : StartCause) : (startedQueue addressed cause).length ≤ 16 := by
  cases addressed <;> simp [startedQueue]

/-- Queues and unit as a restart and as power-on leave them (R34, R143, R163). -/
theorem fits_initial {s : State} {a : Bool} {c : StartCause} (hn : s.notes.queue = startedQueue a c)
    (hq : s.stores = {}) (hm : s.mgmt = {}) : Fits s := by
  refine ⟨?_, ?_, ?_⟩
  · unfold NotesFit; rw [hn]; exact startedQueue_fits a c
  · rw [hq]; exact ⟨Nat.zero_le _, Nat.zero_le _⟩
  · rw [hm]
    exact ⟨Nat.zero_le _, Nat.zero_le _, fun _ => ⟨Nat.zero_lt_two, rfl⟩, fun hs => (by cases hs), fun hp => absurd rfl hp⟩

theorem fits_event {s t : State} (h : Fits s) (he : Event s t) : Fits t := by
  cases he with
  | header p b => exact fits_lines.header p b h
  | frameEnd p b => exact fits_lines.frameEnd p b h
  | link p l => exact fits_lines.link p l h
  | completeD =>
    rename_i t _
    rw [completeD_eq]
    cases t.source <;> exact h
  | completeU =>
    rename_i t _
    obtain ⟨hnotes, hqueues, hmgmt⟩ := h
    rcases completeU_cases t s with ⟨x, -, he⟩ | ⟨-, he | he | ⟨-, he⟩⟩ | ⟨-, he⟩ <;> rw [he]
    · exact ⟨hnotes, hqueues, hmgmt⟩
    · exact ⟨hnotes, hqueues, hmgmt⟩
    · exact fits_initial (c := .restart) rfl rfl rfl
    · exact ⟨hnotes, hqueues, replyFreed_fits hmgmt⟩
    · exact ⟨noteCompleted_fits hnotes, hqueues, hmgmt⟩
  | engine => exact engineEvent_keeps (I := Fits) fits_closeWindow (fun hs => by rw [takeSlot_eq]; exact hs) h
  | request hn ht => exact fits_answered h (nextRequest_some hn).2.1 ht

theorem fits_arbiterU {s : State} (h : Fits s) : Fits (arbiterU s) := by
  obtain ⟨hnotes, ⟨hpass, hback⟩, hmgmt⟩ := h
  rcases arbiterU_cases s with he | ⟨-, ⟨b, q, hb, he⟩ | ⟨r, he⟩ | ⟨r, hr, he⟩⟩ <;> rw [he]
  · exact ⟨hnotes, ⟨hpass, hback⟩, hmgmt⟩
  · rw [hb] at hback
    exact ⟨hnotes, ⟨hpass, (Nat.le_succ _).trans hback⟩, hmgmt⟩
  · exact ⟨hnotes, ⟨hpass, hback⟩, hmgmt⟩
  · exact ⟨notesGranted_fits hnotes hr, ⟨hpass, hback⟩, hmgmt⟩

theorem queuesFit_arbiterD {s : State} (h : QueuesFit s.stores) : QueuesFit (arbiterD s).stores := by
  rcases arbiterD_cases s with he | ⟨-, ⟨m, he⟩ | ⟨w, x, q, -, -, -, he⟩ | ⟨b, q, hb, he⟩⟩ <;> rw [he]
  · exact h
  · exact h
  · rw [grantRelease_eq]; exact h
  · obtain ⟨hpass, hback⟩ := h
    rw [hb] at hpass
    exact ⟨(Nat.le_succ _).trans hpass, hback⟩

theorem fits_arbiterD {s : State} (h : Fits s) : Fits (arbiterD s) := by
  obtain ⟨hnotes, hqueues, hmgmt⟩ := h
  have hstores := queuesFit_arbiterD hqueues
  rw [arbiterD_eq]
  exact ⟨hnotes, hstores, hmgmt⟩

theorem fits_noteWait {s : State} (h : Fits s) : Fits (noteWait s) := by
  obtain ⟨hnotes, hrest⟩ := h
  exact ⟨notesAct_fits hnotes _, hrest⟩

theorem fits_planAct {s : State} (k : WrapPlan) (h : Fits s) : Fits (planAct k s) := by
  unfold planAct
  split
  · exact fits_report _ h
  · dsimp only
    split
    · exact fits_report _ h
    · exact h

theorem fits_ageStream {s : State} (i : StreamId) {reports : Nat → State → State}
    (hr : ∀ n {t}, Fits t → Fits (reports n t)) (h : Fits s) : Fits (ageStream i reports s) := by
  rcases ageStream_cases i reports s with he | ⟨-, n, c, he⟩ <;> rw [he]
  · exact hr 0 h
  · rw [withdrawIfEmpty_eq]
    refine hr n ?_
    rw [freeBufs_eq]
    exact h

theorem fits_wrapAct {s : State} (before : State) (k : WrapPlan) (a : WrapAct) (h : Fits s) :
    Fits (wrapAct before k a s) := by
  cases a with
  | sync => exact fits_gateEnds (fits_reportSync _ h)
  | plan => exact fits_planAct k h
  | close => exact fits_closeWindow h
  | age i => exact fits_ageStream i (fun n _ ht => reportTimes_keeps (fun o hu => fits_report o hu) n _ ht) h
  | notes => exact fits_noteWait h
  | grantU =>
    show Fits (decideU before s)
    rcases decideU_cases before s with ⟨-, he⟩ | ⟨-, he⟩ <;> rw [he]
    · exact fits_arbiterU h
    · exact h
  | ageAmid i n acts grants =>
    exact fits_ageStream i (fun m _ ht =>
      reportAmid_keeps (fun o hu => fits_report o hu) fits_noteWait fits_arbiterU i n before acts grants m ht) h
  | unit => exact h

/-- Nothing that happens in a running part exceeds a capacity. -/
theorem fits_kept : KeptByBlocks Fits where
  quiet hs h := by
    cases h with
    | byte p b => exact fits_lines.byte p b hs
    | _ => exact hs
  event hs h := fits_event hs h
  arbiterU hs := fits_arbiterU hs
  arbiterD hs := fits_arbiterD hs
  begin _ hs := hs
  act before k a hs := fits_wrapAct before k a hs
  copy _ hs := by unfold copyPlan; split <;> exact hs
  rewind hs := hs

/-- The capacities of a running part: those of its queues, and the conditions of power-on at their good values. -/
theorem capacities_iff_of_running {s : State} (hrun : s.power = .running) :
    Capacities s ↔ powerView s = (.running, {}) ∧ Fits s := by
  unfold powerView
  rw [hrun]
  constructor
  · rintro ⟨⟨hpass, hback, hin, hout, hnotes⟩, hpower, hunit⟩
    exact ⟨by rw [hpower.running hrun], hnotes, ⟨hpass, hback⟩, hin, hout, hunit hrun⟩
  · rintro ⟨hcond, hnotes, ⟨hpass, hback⟩, hin, hout, hunit⟩
    have hc : s.conditions = {} := (Prod.mk.inj hcond).2
    have hgood : ConditionsBounded s.conditions := by
      rw [hc]
      exact ⟨le_rfl, Nat.zero_le _, fun h => absurd rfl h⟩
    exact ⟨⟨hpass, hback, hin, hout, hnotes⟩, ⟨fun _ => hc, hgood.samples, hgood.elapsed, hgood.counted⟩, fun _ => hunit⟩

theorem conditionsBounded_of_powerCoherent {s : State} (h : PowerCoherent s) : ConditionsBounded s.conditions :=
  ⟨h.samples, h.elapsed, h.counted⟩

theorem bounded_of_eq {s t : State} (h : Bounded s) (hstores : t.stores = s.stores) (hin : t.mgmt.input = s.mgmt.input)
    (hout : t.mgmt.outbox = s.mgmt.outbox) (hnotes : t.notes = s.notes) : Bounded t := by
  obtain ⟨pass, back, input, outbox, notes⟩ := h
  rw [← hstores] at pass back
  rw [← hin] at input
  rw [← hout] at outbox
  rw [← hnotes] at notes
  exact ⟨pass, back, input, outbox, notes⟩

theorem capacities_lift : Lifts (fun s => powerView s = (.running, {}) ∧ Fits s) Capacities where
  kept := ((powerView_kept _).and fits_kept).events
  running := capacities_iff_of_running
  pending _ hs := by
    obtain ⟨hb, ⟨hrun, hsamples, helapsed, hcounted⟩, hunit⟩ := hs
    exact ⟨bounded_of_eq hb rfl rfl rfl rfl, ⟨hrun, hsamples, helapsed, hcounted⟩, hunit⟩
  begins hc hs := by
    obtain ⟨hb, hpower, -⟩ := hs
    obtain ⟨hsamples, helapsed, hcounted⟩ := hc (conditionsBounded_of_powerCoherent hpower)
    refine ⟨bounded_of_eq hb rfl ?_ ?_ rfl, ⟨fun hr => (by cases hr), hsamples, helapsed, hcounted⟩, fun hr => (by cases hr)⟩
    all_goals
      unfold beginPowerOn
      dsimp only
      split <;> rfl
  conditions hp hc hs := by
    obtain ⟨hb, hpower, hunit⟩ := hs
    obtain ⟨hsamples, helapsed, hcounted⟩ := hc (conditionsBounded_of_powerCoherent hpower)
    exact ⟨bounded_of_eq hb rfl rfl rfl rfl,
      ⟨fun hr => absurd (hp.symm.trans hr) (by decide), hsamples, helapsed, hcounted⟩, hunit⟩
  values straps s := ⟨rfl, fits_initial (c := .powerOn) rfl rfl rfl⟩

/-- Settles O53: every queue grows only where it has room, and each placing of replies settles the unit's state. -/
theorem capacitiesKept : Obligations.CapacitiesKept := fun _ _ hs he => capacities_lift.step hs he

end Sys2Proof.Invariants
end

section
/-! PROOF. The bounds of the stream entries as an invariant of the running part (R35 to R37, R46 to R49). -/

namespace Sys2Proof.Invariants

open Sys2Proof.Machine Sys2Proof.Safety Sys2Proof.Claims Sys2Proof.Link

/-! ### Entries read after a change -/

@[simp] theorem setQueue_stream_self (i : StreamId) (q : List Held) (s : State) :
    (setQueue i q s).stream i = { s.stream i with queue := q } := setStream_stream_self i _ s

@[simp] theorem countStream_stream_self (i : StreamId) (f : StreamCounters → StreamCounters) (s : State) :
    (countStream i f s).stream i = { s.stream i with counters := f (s.stream i).counters } :=
  setStream_stream_self i _ s

/-- Every entry at a restart (R54). -/
theorem restartValues_stream (s : State) (i : StreamId) : (restartValues s).stream i = restartStream (s.stream i) :=
  mapVector_getElem restartStream s.streams i i.isLt

theorem report_stream (o : Occurrence) (s : State) (i : StreamId) : (report o s).stream i = s.stream i := by
  rw [report_eq]; rfl

/-- Plan control's action at a wrap changes plan control, the resume offset and the note unit at most. -/
theorem planAct_eq (k : WrapPlan) (s : State) :
    planAct k s =
      { s with
        plan := (planAct k s).plan
        engine := { s.engine with resumeOffset := (planAct k s).engine.resumeOffset }
        notes := (planAct k s).notes } := by
  unfold planAct
  split
  · unfold expireHold
    dsimp only
    rw [report_eq]
    rfl
  · dsimp only
    split
    · unfold takeSwitch
      dsimp only
      rw [report_eq]
      rfl
    · rfl

/-- What STREAM_WRITE carries lies in the ranges of R36. -/
theorem streamWriteArgs_ranges {a : List Byte} {w : StreamWriteArgs} (h : streamWriteArgs a = some w) :
    1 ≤ w.depth ∧ w.depth ≤ 4 ∧ w.ageLimit ≤ 15 := by
  unfold streamWriteArgs at h
  split at h
  · split at h
    · rename_i hr
      injection h with h
      subst h
      exact ⟨hr.2.1, hr.2.2.1, hr.2.2.2⟩
    · cases h
  · cases h

/-! ### The bounds of one entry (R36, R37) -/

theorem entryBounded_withCounters {x : Stream} (h : EntryBounded x) (c : StreamCounters) :
    EntryBounded { x with counters := c } :=
  ⟨h.depthLow, h.depthHigh, h.age, h.length, h.invalidEmpty⟩

/-- A queue within DEPTH, of a valid entry or empty. -/
theorem entryBounded_withQueue {x : Stream} (h : EntryBounded x) {q : List Held} (hlen : q.length ≤ x.depth)
    (hempty : x.valid = false → q = []) : EntryBounded { x with queue := q } :=
  ⟨h.depthLow, h.depthHigh, h.age, hlen, fun hv => ⟨hempty hv, (h.invalidEmpty hv).2⟩⟩

/-- A queue that is no longer keeps the bounds. -/
theorem entryBounded_shorter {x : Stream} (h : EntryBounded x) {q : List Held} (hlen : q.length ≤ x.queue.length) :
    EntryBounded { x with queue := q } :=
  entryBounded_withQueue h (hlen.trans h.length) fun hv => by
    rw [(h.invalidEmpty hv).1] at hlen
    exact List.length_eq_zero_iff.1 (Nat.le_zero.1 hlen)

theorem entryBounded_written {x : Stream} {a : List Byte} {w : StreamWriteArgs}
    (ha : streamWriteArgs a = some w) (hfits : writeNeedsEmpty x w = false) : EntryBounded (writtenStream x w) := by
  obtain ⟨hlow, hhigh, hage⟩ := streamWriteArgs_ranges ha
  unfold writtenStream
  split
  · rename_i hv
    have hlen : ¬ w.depth < x.queue.length := by
      intro hlt
      simp [writeNeedsEmpty, hv, hlt] at hfits
    exact ⟨hlow, hhigh, hage, Nat.le_of_not_lt hlen, fun hn => absurd (hv.symm.trans hn) (by decide)⟩
  · exact ⟨hlow, hhigh, hage, Nat.zero_le _, fun hn => (by cases hn)⟩

theorem entryBounded_restart {x : Stream} (h : EntryBounded x) : EntryBounded (restartStream x) := by
  unfold restartStream
  split
  · exact entryBounded_withCounters (entryBounded_withQueue h (Nat.zero_le _) fun _ => rfl) _
  · rename_i hl
    exact ⟨h.depthLow, h.depthHigh, h.age, Nat.zero_le _, fun _ => ⟨rfl, by simpa using hl⟩⟩

/-! ### The table -/

theorem streamsBounded_of_streams {s t : State} (h : StreamsBounded s) (he : t.streams = s.streams) :
    StreamsBounded t := by
  intro i
  show EntryBounded t.streams[i]
  rw [he]
  exact h i

theorem streamsBounded_withdrawIfEmpty {s : State} (h : StreamsBounded s) (i : StreamId) :
    StreamsBounded (withdrawIfEmpty i s) := streamsBounded_of_streams h (by rw [withdrawIfEmpty_eq])

theorem streamsBounded_raiseRequest {s : State} (h : StreamsBounded s) : StreamsBounded (raiseRequest s) :=
  streamsBounded_of_streams h (by rw [raiseRequest_eq])

theorem streamsBounded_raiseFor {s : State} (h : StreamsBounded s) (i : StreamId) : StreamsBounded (raiseFor i s) :=
  streamsBounded_of_streams h (by rw [raiseFor_eq])

theorem streamsBounded_setStream {s : State} (h : StreamsBounded s) {i : StreamId} {x : Stream} (hx : EntryBounded x) :
    StreamsBounded (setStream i x s) := by
  intro j
  rw [setStream_stream]
  split
  · exact hx
  · exact h j

theorem streamsBounded_countStream {s : State} (h : StreamsBounded s) (i : StreamId)
    (f : StreamCounters → StreamCounters) : StreamsBounded (countStream i f s) :=
  streamsBounded_setStream h (entryBounded_withCounters (h i) _)

theorem streamsBounded_setQueue {s : State} (h : StreamsBounded s) {i : StreamId} {q : List Held}
    (hlen : q.length ≤ (s.stream i).queue.length) : StreamsBounded (setQueue i q s) :=
  streamsBounded_setStream h (entryBounded_shorter (h i) hlen)

theorem streamsBounded_report {s : State} (o : Occurrence) (h : StreamsBounded s) : StreamsBounded (report o s) := by
  rw [report_eq]; exact h

theorem streamsBounded_freeBufs {s : State} (bs : List BufId) (h : StreamsBounded s) :
    StreamsBounded (freeBufs bs s) := by
  rw [freeBufs_eq]; exact h

theorem streamsBounded_admitRecord {s : State} (h : StreamsBounded s) {i : StreamId} (b : BufId)
    (hv : (s.stream i).valid = true) (hroom : (s.stream i).queue.length < (s.stream i).depth) :
    StreamsBounded (admitRecord i b s) := by
  refine streamsBounded_setStream (s := markBuf b .queued s) h (entryBounded_withQueue (h i) ?_ fun hn => ?_)
  · rw [List.length_append]; exact hroom
  · exact absurd (hv.symm.trans hn) (by decide)

theorem streamsBounded_supersedeHead {s : State} (h : StreamsBounded s) (i : StreamId) :
    StreamsBounded (supersedeHead i s) := by
  unfold supersedeHead
  split
  · rename_i x q hq
    refine streamsBounded_report _ (streamsBounded_countStream (streamsBounded_setQueue (s := freeBuf x.buffer s) h ?_) i _)
    show q.length ≤ (s.stream i).queue.length
    rw [hq]
    exact Nat.le_succ _
  · exact h

/-- Superseding makes room in a full queue, which is not empty (R36, R39). -/
theorem supersedeHead_room {s : State} (h : StreamsBounded s) (i : StreamId)
    (hfull : ¬ (s.stream i).queue.length < (s.stream i).depth) :
    ((supersedeHead i s).stream i).queue.length < ((supersedeHead i s).stream i).depth ∧
      ((supersedeHead i s).stream i).valid = (s.stream i).valid := by
  have hlow := (h i).depthLow
  have hlen := (h i).length
  unfold supersedeHead
  split
  · rename_i x q hq
    rw [hq, List.length_cons] at hlen
    dsimp only
    rw [report_stream, countStream_stream_self, setQueue_stream_self]
    exact ⟨hlen, rfl⟩
  · rename_i hq
    rw [hq] at hfull
    exact absurd (show [].length < _ from hlow) hfull

theorem streamsBounded_admitFrame {s : State} (h : StreamsBounded s) {i : StreamId} (b : BufId)
    (hv : (s.stream i).valid = true) : StreamsBounded (admitFrame i b s) := by
  have hcount := streamsBounded_countStream h i fun c => { c with arrived := c.arrived + 1 }
  have hvalid : ((countStream i (fun c => { c with arrived := c.arrived + 1 }) s).stream i).valid = true := by
    rw [countStream_stream_self]; exact hv
  unfold admitFrame
  extract_lets u
  split
  · rename_i hroom
    exact streamsBounded_raiseFor (streamsBounded_admitRecord hcount b hvalid hroom) i
  · rename_i hfull
    split
    · obtain ⟨hroom, hv'⟩ := supersedeHead_room hcount i hfull
      exact streamsBounded_raiseFor
        (streamsBounded_admitRecord (streamsBounded_supersedeHead hcount i) b (hv'.trans hvalid) hroom) i
    · exact streamsBounded_report _ (streamsBounded_countStream (s := freeBuf b u) hcount i _)

theorem streamsBounded_lines : KeptOnLines StreamsBounded where
  port p x hs := by cases p <;> exact hs
  report o hs := streamsBounded_report o hs
  buffers _ _ _ hs := hs
  counters _ hs := hs
  pass _ hs := by unfold passAppend; split <;> exact hs
  back _ hs := by unfold backAppend; split <;> exact hs
  admission b hv hs := streamsBounded_admitFrame hs b hv
  mark hs := by rw [deliverMark_frame]; exact hs
  offer hs := by rw [offerRequest_frame]; exact hs

theorem streamsBounded_purgeQueue {s : State} (h : StreamsBounded s) (i : StreamId) :
    StreamsBounded (purgeQueue i s) := by
  have hempty := streamsBounded_setQueue (streamsBounded_freeBufs ((s.stream i).queue.map Held.buffer) h) (i := i)
    (q := []) (Nat.zero_le _)
  exact streamsBounded_withdrawIfEmpty (streamsBounded_countStream hempty i _) i

/-- Withdrawing a request leaves the entries. -/
theorem withdrawIfEmpty_stream (i j : StreamId) (s : State) : (withdrawIfEmpty i s).stream j = s.stream j := by
  rw [withdrawIfEmpty_eq]; rfl

/-- An entry purged holds nothing; its configuration stays (R52). -/
theorem purgeQueue_stream (i : StreamId) (s : State) :
    ∃ c, (purgeQueue i s).stream i = { s.stream i with queue := [], counters := c } := by
  unfold purgeQueue
  dsimp only
  rw [withdrawIfEmpty_stream, countStream_stream_self, setQueue_stream_self, freeBufs_eq]
  exact ⟨_, rfl⟩

theorem streamsBounded_effect {s t : State} (h : StreamsBounded s) (he : Effect s t) : StreamsBounded t := by
  cases he with
  | writeStream ha _ _ hfits => exact streamsBounded_setStream h (entryBounded_written ha hfits)
  | deleteStream hl =>
    rename_i i _
    obtain ⟨c, hi⟩ := purgeQueue_stream i s
    unfold deleteStream
    dsimp only
    rw [detach_eq]
    refine streamsBounded_setStream (streamsBounded_purgeQueue h i) ?_
    rw [hi]
    exact ⟨(h i).depthLow, (h i).depthHigh, (h i).age, Nat.zero_le _, fun _ => ⟨rfl, hl⟩⟩
  | lockStream hv =>
    rename_i i
    obtain ⟨hlow, hhigh, hage, hlen, -⟩ := h i
    exact streamsBounded_setStream h ⟨hlow, hhigh, hage, hlen, fun hn => absurd (hv.symm.trans hn) (by decide)⟩
  | purge => exact streamsBounded_purgeQueue h _
  | hold limit => unfold beginHold; dsimp only; rw [gateEnds_eq]; exact h
  | configureSync => rw [gateEnds_eq, reportSync_eq]; exact h
  | zero g =>
    cases g with
    | port p => cases p <;> exact h
    | stream i => exact streamsBounded_countStream h i _
    | _ => exact h
  | _ => exact h

theorem streamsBounded_closeWindow {s : State} (h : StreamsBounded s) : StreamsBounded (closeWindow s) := by
  have hmissed : StreamsBounded (missedCheck s) := by
    unfold missedCheck
    split
    · split
      · exact streamsBounded_report _ (streamsBounded_countStream h _ _)
      · exact h
    · exact h
  unfold closeWindow
  rcases endWindow_eq (missedCheck s) with ⟨-, he⟩ | ⟨w, -, he⟩ <;> rw [he] <;> exact hmissed

theorem streamsBounded_releaseCompleted {s : State} (h : StreamsBounded s) (b : BufId) (attached : Option StreamId) :
    StreamsBounded (releaseCompleted b attached s) := by
  have hfreed : StreamsBounded (freeBuf b s) := h
  unfold releaseCompleted
  extract_lets u v
  have hv : StreamsBounded v := by
    cases attached with
    | none => exact hfreed
    | some i => exact streamsBounded_countStream hfreed i _
  exact streamsBounded_raiseRequest (streamsBounded_of_streams hv rfl)

/-- The port D transmitter is IDLE and TX_FRAMES has risen (R14). -/
def idledD (s : State) : State :=
  countPort .d (fun c => { c with txFrames := c.txFrames + 1 }) { s with txD := none }

theorem completeD_eq_tellD (t : Transmission SourceD) (s : State) : completeD t s = tellD t.source (idledD s) := rfl

theorem streamsBounded_completeD {s : State} (h : StreamsBounded s) (t : Transmission SourceD) :
    StreamsBounded (completeD t s) := by
  have hidle : StreamsBounded (idledD s) := h
  rw [completeD_eq_tellD]
  cases t.source with
  | mark => exact hidle
  | release b attached => exact streamsBounded_releaseCompleted hidle b attached
  | pass b => exact hidle

theorem streamsBounded_completeU {s : State} (h : StreamsBounded s) (t : Transmission SourceU) :
    StreamsBounded (completeU t s) := by
  rcases completeU_cases t s with ⟨x, -, he⟩ | ⟨-, he | he | ⟨-, he⟩⟩ | ⟨-, he⟩ <;> rw [he]
  · exact h
  · exact h
  · intro i
    rw [restartValues_stream]
    exact entryBounded_restart (h i)
  · exact h
  · exact h

theorem streamsBounded_event {s t : State} (h : StreamsBounded s) (he : Event s t) : StreamsBounded t := by
  cases he with
  | header p b => exact streamsBounded_lines.header p b h
  | frameEnd p b => exact streamsBounded_lines.frameEnd p b h
  | link p l => exact streamsBounded_lines.link p l h
  | completeD => exact streamsBounded_completeD h _
  | completeU => exact streamsBounded_completeU h _
  | engine =>
    exact engineEvent_keeps (I := StreamsBounded) streamsBounded_closeWindow (fun hs => by rw [takeSlot_eq]; exact hs) h
  | request _ ht =>
    exact answered_keeps (I := StreamsBounded) streamsBounded_effect (fun _ hs => hs)
      (fun o hs => streamsBounded_report o hs) h ht

theorem streamsBounded_arbiterU {s : State} (h : StreamsBounded s) : StreamsBounded (arbiterU s) := by
  rw [arbiterU_eq]; exact h

theorem streamsBounded_arbiterD {s : State} (h : StreamsBounded s) : StreamsBounded (arbiterD s) := by
  rcases arbiterD_cases s with he | ⟨-, ⟨m, he⟩ | ⟨w, x, q, -, -, hq, he⟩ | ⟨b, q, -, he⟩⟩ <;> rw [he]
  · exact h
  · exact h
  · rw [grantRelease_eq]
    refine streamsBounded_setQueue h (i := w.stream) ?_
    rw [hq]
    exact Nat.le_succ _
  · exact h

theorem streamsBounded_ageStream {s : State} (i : StreamId) {reports : Nat → State → State}
    (hr : ∀ n {t}, StreamsBounded t → StreamsBounded (reports n t)) (h : StreamsBounded s) :
    StreamsBounded (ageStream i reports s) := by
  rcases ageStream_cases i reports s with he | ⟨-, n, c, he⟩ <;> rw [he]
  · exact hr 0 h
  · refine streamsBounded_withdrawIfEmpty ?_ i
    refine hr n (streamsBounded_countStream (streamsBounded_freeBufs _ (streamsBounded_setQueue h ?_)) i c)
    exact (List.length_filter_le _ _).trans (List.length_map _).le

theorem streamsBounded_wrapAct {s : State} (before : State) (k : WrapPlan) (a : WrapAct) (h : StreamsBounded s) :
    StreamsBounded (wrapAct before k a s) := by
  cases a with
  | sync =>
    show StreamsBounded (syncAct k s)
    unfold syncAct
    dsimp only
    rw [gateEnds_eq, reportSync_eq]
    exact h
  | plan =>
    show StreamsBounded (planAct k s)
    rw [planAct_eq]
    exact h
  | close => exact streamsBounded_closeWindow h
  | age i =>
    exact streamsBounded_ageStream i
      (fun n _ ht => reportTimes_keeps (fun o hu => streamsBounded_report o hu) n _ ht) h
  | notes => exact h
  | grantU =>
    show StreamsBounded (decideU before s)
    rcases decideU_cases before s with ⟨-, he⟩ | ⟨-, he⟩ <;> rw [he]
    · exact streamsBounded_arbiterU h
    · exact h
  | ageAmid i n acts grants =>
    exact streamsBounded_ageStream i (fun m _ ht =>
      reportAmid_keeps (I := StreamsBounded) (fun o hu => streamsBounded_report o hu) (fun hu => hu)
        streamsBounded_arbiterU i n before acts grants m ht) h
  | unit => exact h

/-- Nothing that happens in a running part exceeds the bounds of an entry. -/
theorem streamsBounded_kept : KeptByBlocks StreamsBounded where
  quiet hs h := by
    cases h with
    | byte p b => exact streamsBounded_lines.byte p b hs
    | _ => exact hs
  event hs h := streamsBounded_event hs h
  arbiterU hs := streamsBounded_arbiterU hs
  arbiterD hs := streamsBounded_arbiterD hs
  begin _ hs := hs
  act before k a hs := streamsBounded_wrapAct before k a hs
  copy _ hs := by unfold copyPlan; split <;> exact hs
  rewind hs := hs

theorem streamsBounded_powerOnValues (straps : NodeAddr) (s : State) : StreamsBounded (powerOnValues straps s) := by
  intro i
  have he : (powerOnValues straps s).stream i = {} := Vector.getElem_replicate i.isLt
  rw [he]
  exact ⟨le_rfl, by decide, Nat.zero_le _, Nat.zero_le _, fun _ => ⟨rfl, rfl⟩⟩

end Sys2Proof.Invariants
end

section
/-! PROOF. The holders of a pool buffer, counted: what R19 asks of one buffer, and how a buffer passes from one holder to
the next (R19, R20, R23). -/

namespace Sys2Proof.Invariants

open Sys2Proof.Machine Sys2Proof.Safety Sys2Proof.Claims Sys2Proof.Link

/-! ### Holders, counted -/

/-- How often an entry's hold queue holds buffer `c`. -/
def heldBy (x : Stream) (c : BufId) : Nat := (x.queue.map Held.buffer).count c

/-- How often the hold queues hold buffer `c`. -/
def heldCount (s : State) (c : BufId) : Nat := ∑ i : StreamId, heldBy (s.stream i) c

/-- How often the queues hold buffer `c`. -/
def queuedCount (s : State) (c : BufId) : Nat := heldCount s c + s.stores.pass.count c + s.stores.back.count c

/-- How often the receivers fill buffer `c`. -/
def fillingCount (s : State) (c : BufId) : Nat := (fillingBuffers s).count c

/-- How often the transmitters read out buffer `c`. -/
def sendingCount (s : State) (c : BufId) : Nat := (sendingU s.txU).count c + (sendingD s.txD).count c

theorem toList_eq_ofFn {α : Type} {n : Nat} (v : Vector α n) : v.toList = List.ofFn fun i : Fin n => v[i] :=
  List.ext_getElem (by simp) fun _ _ _ => by simp

theorem count_queuedBuffers (s : State) (c : BufId) : (queuedBuffers s).count c = queuedCount s c := by
  have hlist : s.streams.toList = List.ofFn fun i : StreamId => s.stream i := toList_eq_ofFn s.streams
  have hheld : (s.streams.toList.flatMap fun x => x.queue.map Held.buffer).count c = heldCount s c := by
    rw [List.count_flatMap, hlist, List.map_ofFn, List.sum_ofFn]
    rfl
  simp only [queuedBuffers, List.count_append, hheld, queuedCount]

/-- A change of one entry's queue. -/
theorem heldCount_setStream (i : StreamId) (x : Stream) (s : State) (c : BufId) :
    heldCount (setStream i x s) c + heldBy (s.stream i) c = heldCount s c + heldBy x c := by
  unfold heldCount
  rw [← Finset.add_sum_erase _ _ (Finset.mem_univ i), ← Finset.add_sum_erase (a := i) _ (fun j => heldBy (s.stream j) c) (Finset.mem_univ i)]
  have hrest : ∑ j ∈ Finset.univ.erase i, heldBy ((setStream i x s).stream j) c =
      ∑ j ∈ Finset.univ.erase i, heldBy (s.stream j) c :=
    Finset.sum_congr rfl fun j hj => by rw [setStream_stream, if_neg (Finset.ne_of_mem_erase hj).symm]
  rw [hrest, setStream_stream_self]
  omega

/-- What R19 asks of one buffer: as many holders of each kind as its state says, and no frame in a FREE one. -/
structure OwnedAt (s : State) (c : BufId) : Prop where
  queued : queuedCount s c = if s.pool[c].state = .queued then 1 else 0
  filling : fillingCount s c = if s.pool[c].state = .filling then 1 else 0
  sending : sendingCount s c = if s.pool[c].state = .sending then 1 else 0
  free : s.pool[c].state = .free → s.pool[c].bytes = []

/-- Each buffer's state and holders agree exactly when the pool is owned as R19 says. -/
theorem poolOwned_iff (s : State) : PoolOwned s ↔ ∀ c, OwnedAt s c := by
  have hcount : ∀ {l : List BufId} {p : Prop} [Decidable p] {c : BufId}, (p ↔ c ∈ l) → l.count c ≤ 1 →
      l.count c = if p then 1 else 0 := by
    intro l p _ c h hle
    by_cases hp : p
    · rw [if_pos hp]
      exact le_antisymm hle (List.count_pos_iff.2 (h.1 hp))
    · rw [if_neg hp]
      exact List.count_eq_zero.2 (mt h.2 hp)
  have hmem : ∀ {l : List BufId} {p : Prop} [Decidable p] {c : BufId}, l.count c = (if p then 1 else 0) → (p ↔ c ∈ l) := by
    intro l p _ c h
    rw [← List.count_pos_iff, h]
    by_cases hp : p <;> simp [hp]
  constructor
  · rintro ⟨honce, hqueued, hfilling, hsending, hfree⟩ c
    have hle : (queuedBuffers s ++ fillingBuffers s ++ sendingU s.txU ++ sendingD s.txD).count c ≤ 1 :=
      List.nodup_iff_count_le_one.1 honce c
    simp only [List.count_append] at hle
    refine ⟨?_, hcount (hfilling c) (by omega), ?_, hfree c⟩
    · rw [← count_queuedBuffers]
      exact hcount (hqueued c) (by omega)
    · have hs := hcount (hsending c) (by rw [List.count_append]; omega)
      rwa [List.count_append] at hs
  · intro h
    refine ⟨List.nodup_iff_count_le_one.2 fun c => ?_, fun c => hmem ?_, fun c => hmem (h c).filling, fun c => hmem ?_,
      fun c => (h c).free⟩
    · obtain ⟨hq, hf, hs, -⟩ := h c
      simp only [List.count_append, count_queuedBuffers]
      unfold fillingCount at hf
      unfold sendingCount at hs
      cases hst : s.pool[c].state <;> simp only [hst, reduceCtorEq, if_true, if_false] at hq hf hs <;> omega
    · rw [count_queuedBuffers]; exact (h c).queued
    · rw [List.count_append]; exact (h c).sending

/-! ### One buffer on its way from one holder to the next -/

/-- Every buffer but `x` is owned as R19 says, `x` has no holder, and the receivers fill buffers only in BODY. With no
`x` the pool is owned. -/
structure OwnedBut (x : Option BufId) (s : State) : Prop where
  owned : ∀ c, x ≠ some c → OwnedAt s c
  loose : ∀ c, x = some c → queuedCount s c = 0 ∧ fillingCount s c = 0 ∧ sendingCount s c = 0
  fillsU : FillsInBody s.portU.rx
  fillsD : FillsInBody s.portD.rx

/-- All that the ownership of the pool depends on. -/
def poolView (s : State) :=
  (s.pool, (fun i : StreamId => (s.stream i).queue), s.stores.pass, s.stores.back, s.portU.rx, s.portD.rx,
    sendingU s.txU, sendingD s.txD)

theorem ownedBut_of_view {x : Option BufId} {s t : State} (h : OwnedBut x s) (hv : poolView t = poolView s) :
    OwnedBut x t := by
  simp only [poolView, Prod.mk.injEq] at hv
  obtain ⟨hpool, hqueues, hpass, hback, hrxU, hrxD, htxU, htxD⟩ := hv
  have hheld : ∀ c, heldCount t c = heldCount s c := fun c =>
    Finset.sum_congr rfl fun i _ => congrArg (fun q : List Held => (q.map Held.buffer).count c) (congrFun hqueues i)
  have hq : ∀ c, queuedCount t c = queuedCount s c := fun c => by unfold queuedCount; rw [hheld, hpass, hback]
  have hf : ∀ c, fillingCount t c = fillingCount s c := fun c => by unfold fillingCount fillingBuffers; rw [hrxU, hrxD]
  have hs : ∀ c, sendingCount t c = sendingCount s c := fun c => by unfold sendingCount; rw [htxU, htxD]
  refine ⟨fun c hc => ?_, fun c hc => ?_, by rw [hrxU]; exact h.fillsU, by rw [hrxD]; exact h.fillsD⟩
  · obtain ⟨queued, filling, sending, free⟩ := h.owned c hc
    rw [← hq, ← hpool] at queued
    rw [← hf, ← hpool] at filling
    rw [← hs, ← hpool] at sending
    rw [← hpool] at free
    exact ⟨queued, filling, sending, free⟩
  · rw [hq, hf, hs]; exact h.loose c hc

/-- The holders of buffer `c` are the same. -/
def SameHolders (s t : State) (c : BufId) : Prop :=
  queuedCount t c = queuedCount s c ∧ fillingCount t c = fillingCount s c ∧ sendingCount t c = sendingCount s c

theorem OwnedAt.congr {s t : State} {c : BufId} (h : OwnedAt s c) (hpool : t.pool[c] = s.pool[c])
    (hsame : SameHolders s t c) : OwnedAt t c := by
  obtain ⟨queued, filling, sending, free⟩ := h
  obtain ⟨hq, hf, hs⟩ := hsame
  rw [← hq, ← hpool] at queued
  rw [← hf, ← hpool] at filling
  rw [← hs, ← hpool] at sending
  rw [← hpool] at free
  exact ⟨queued, filling, sending, free⟩

/-- No buffer has two holders. -/
theorem OwnedAt.holders_le_one {s : State} {c : BufId} (h : OwnedAt s c) :
    queuedCount s c + fillingCount s c + sendingCount s c ≤ 1 := by
  obtain ⟨hq, hf, hs, -⟩ := h
  cases hst : s.pool[c].state <;> simp only [hst, reduceCtorEq, if_true, if_false] at hq hf hs <;> omega

/-- A holder that gives up its buffer leaves it without one. -/
theorem OwnedBut.loosen {s t : State} {x : BufId} (h : OwnedBut none s) (hpool : t.pool = s.pool)
    (hother : ∀ c, c ≠ x → SameHolders s t c)
    (hx : queuedCount t x + fillingCount t x + sendingCount t x + 1 ≤
      queuedCount s x + fillingCount s x + sendingCount s x)
    (hU : FillsInBody t.portU.rx) (hD : FillsInBody t.portD.rx) : OwnedBut (some x) t := by
  refine ⟨fun c hc => ?_, fun c hc => ?_, hU, hD⟩
  · exact (h.owned c (by simp)).congr (by rw [hpool]) (hother c fun e => hc (by rw [e]))
  · obtain rfl : x = c := Option.some.inj hc
    have hle := (h.owned x (by simp)).holders_le_one
    omega

/-- A buffer without a holder that is given the holder its new state names leaves the pool owned. -/
theorem OwnedBut.settle {s t : State} {x : BufId} (h : OwnedBut (some x) s)
    (hpool : ∀ c, c ≠ x → t.pool[c] = s.pool[c]) (hother : ∀ c, c ≠ x → SameHolders s t c) (hx : OwnedAt t x)
    (hU : FillsInBody t.portU.rx) (hD : FillsInBody t.portD.rx) : OwnedBut none t := by
  refine ⟨fun c _ => ?_, fun c hc => (by cases hc), hU, hD⟩
  by_cases hc : c = x
  · rw [hc]; exact hx
  · exact (h.owned c fun e => hc (Option.some.inj e).symm).congr (hpool c hc) (hother c hc)

end Sys2Proof.Invariants
end

section
/-! PROOF. The rules by which a buffer changes its holder: a holder gives it up, it is freed, it is queued, filled or
sent, the frames of a hold queue are freed together (R19, R20, R23). -/

namespace Sys2Proof.Invariants

open Sys2Proof.Machine Sys2Proof.Safety Sys2Proof.Claims Sys2Proof.Link

theorem markBuf_getElem (b c : BufId) (st : BufState) (s : State) :
    (markBuf b st s).pool[c] = if b = c then { s.pool[b] with state := st } else s.pool[c] := setBuf_getElem b c _ s

theorem fillsInBody_of_none {rx : Receiver} (h : rx.buffer = none) : FillsInBody rx := by
  intro hs
  rw [h] at hs
  cases hs

theorem fillsInBody_setRx (p : Port) {rx : Receiver} {s : State} (hU : FillsInBody s.portU.rx)
    (hD : FillsInBody s.portD.rx) (h : FillsInBody rx) :
    FillsInBody (setRx p rx s).portU.rx ∧ FillsInBody (setRx p rx s).portD.rx := by
  cases p
  · exact ⟨h, hD⟩
  · exact ⟨hU, h⟩

theorem queuedCount_setRx (p : Port) (rx : Receiver) (s : State) (c : BufId) :
    queuedCount (setRx p rx s) c = queuedCount s c := by cases p <;> rfl

theorem sendingCount_setRx (p : Port) (rx : Receiver) (s : State) (c : BufId) :
    sendingCount (setRx p rx s) c = sendingCount s c := by cases p <;> rfl

/-- A change of one receiver's buffer. -/
theorem fillingCount_setRx (p : Port) (rx : Receiver) (s : State) (c : BufId) :
    fillingCount (setRx p rx s) c + (s.port p).rx.buffer.toList.count c = fillingCount s c + rx.buffer.toList.count c := by
  simp only [fillingCount, fillingBuffers, List.count_append]
  cases p
  · show rx.buffer.toList.count c + s.portD.rx.buffer.toList.count c + s.portU.rx.buffer.toList.count c = _
    omega
  · show s.portU.rx.buffer.toList.count c + rx.buffer.toList.count c + s.portD.rx.buffer.toList.count c = _
    omega

theorem count_singleton_of_ne {b c : BufId} (h : c ≠ b) : [b].count c = 0 := by
  rw [List.count_cons_of_ne h.symm, List.count_nil]

/-! ### A holder gives up its buffer -/

section GivenUp

variable {s : State} (h : OwnedBut none s) {b : BufId}
include h

theorem ownedBut_backTail {q : List BufId} (hb : s.stores.back = b :: q) :
    OwnedBut (some b) { s with stores := { s.stores with back := q } } := by
  refine h.loosen rfl (fun c hc => ⟨?_, rfl, rfl⟩) ?_ h.fillsU h.fillsD
  · show heldCount s c + s.stores.pass.count c + q.count c = queuedCount s c
    rw [queuedCount, hb, List.count_cons_of_ne hc.symm]
  · show heldCount s b + s.stores.pass.count b + q.count b + fillingCount s b + sendingCount s b + 1 ≤ _
    rw [queuedCount, hb, List.count_cons_self]
    omega

theorem ownedBut_passTail {q : List BufId} (hb : s.stores.pass = b :: q) :
    OwnedBut (some b) { s with stores := { s.stores with pass := q } } := by
  refine h.loosen rfl (fun c hc => ⟨?_, rfl, rfl⟩) ?_ h.fillsU h.fillsD
  · show heldCount s c + q.count c + s.stores.back.count c = queuedCount s c
    rw [queuedCount, hb, List.count_cons_of_ne hc.symm]
  · show heldCount s b + q.count b + s.stores.back.count b + fillingCount s b + sendingCount s b + 1 ≤ _
    rw [queuedCount, hb, List.count_cons_self]
    omega

theorem ownedBut_holdTail {i : StreamId} {r : Held} {q : List Held} (hq : (s.stream i).queue = r :: q) :
    OwnedBut (some r.buffer) (setQueue i q s) := by
  have hheld : ∀ c, heldBy (s.stream i) c = heldBy { s.stream i with queue := q } c + [r.buffer].count c := by
    intro c
    simp only [heldBy, hq, List.map_cons]
    rw [← List.singleton_append, List.count_append, Nat.add_comm]
  have hset := heldCount_setStream i { s.stream i with queue := q } s
  have hcount : ∀ c, queuedCount (setQueue i q s) c + [r.buffer].count c = queuedCount s c := by
    intro c
    have h1 := hset c
    rw [hheld c] at h1
    show heldCount (setStream i _ s) c + s.stores.pass.count c + s.stores.back.count c + _ = _
    unfold queuedCount
    omega
  refine h.loosen rfl (fun c hc => ⟨?_, rfl, rfl⟩) ?_ h.fillsU h.fillsD
  · have h1 := hcount c
    rwa [count_singleton_of_ne hc, Nat.add_zero] at h1
  · have h1 := hcount r.buffer
    rw [List.count_singleton_self] at h1
    show queuedCount (setQueue i q s) r.buffer + fillingCount s r.buffer + sendingCount s r.buffer + 1 ≤ _
    omega

theorem ownedBut_rxReset {p : Port} (hb : (s.port p).rx.buffer = some b) : OwnedBut (some b) (setRx p {} s) := by
  have hfill : ∀ c, fillingCount (setRx p {} s) c + [b].count c = fillingCount s c := by
    intro c
    have h1 := fillingCount_setRx p {} s c
    rwa [hb] at h1
  obtain ⟨hU, hD⟩ := fillsInBody_setRx p h.fillsU h.fillsD (fillsInBody_of_none (rx := {}) rfl)
  refine h.loosen (setPort_pool s p _) (fun c hc => ⟨queuedCount_setRx p {} s c, ?_, sendingCount_setRx p {} s c⟩) ?_ hU hD
  · have h1 := hfill c
    rwa [count_singleton_of_ne hc, Nat.add_zero] at h1
  · have h1 := hfill b
    rw [List.count_singleton_self] at h1
    rw [queuedCount_setRx, sendingCount_setRx]
    omega

theorem ownedBut_idledU (hb : sendingU s.txU = [b]) : OwnedBut (some b) (idledU s) := by
  have hsend : ∀ c, sendingCount s c = [b].count c + sendingCount (idledU s) c := by
    intro c
    show _ = _ + ([].count c + (sendingD s.txD).count c)
    rw [sendingCount, hb, List.count_nil, Nat.zero_add]
  refine h.loosen rfl (fun c hc => ⟨rfl, rfl, ?_⟩) ?_ h.fillsU h.fillsD
  · rw [hsend c, count_singleton_of_ne hc, Nat.zero_add]
  · rw [hsend b, List.count_singleton_self]
    show queuedCount s b + fillingCount s b + sendingCount (idledU s) b + 1 ≤ _
    omega

theorem ownedBut_idledD (hb : sendingD s.txD = [b]) : OwnedBut (some b) (idledD s) := by
  have hsend : ∀ c, sendingCount s c = sendingCount (idledD s) c + [b].count c := by
    intro c
    show _ = ((sendingU s.txU).count c + [].count c) + _
    rw [sendingCount, hb, List.count_nil, Nat.add_zero]
  refine h.loosen rfl (fun c hc => ⟨rfl, rfl, ?_⟩) ?_ h.fillsU h.fillsD
  · rw [hsend c, count_singleton_of_ne hc, Nat.add_zero]
  · rw [hsend b, List.count_singleton_self]
    show queuedCount s b + fillingCount s b + sendingCount (idledD s) b + 1 ≤ _
    omega

theorem ownedBut_of_free (hb : s.pool[b].state = .free) : OwnedBut (some b) s := by
  refine ⟨fun c _ => h.owned c (by simp), fun c hc => ?_, h.fillsU, h.fillsD⟩
  obtain rfl : b = c := Option.some.inj hc
  obtain ⟨hq, hf, hs, -⟩ := h.owned b (by simp)
  simp only [hb, reduceCtorEq, if_false] at hq hf hs
  exact ⟨hq, hf, hs⟩

end GivenUp

/-! ### A buffer without a holder is given one, or freed -/

section Given

variable {s : State} {b : BufId} (h : OwnedBut (some b) s)
include h

theorem owned_freeBuf : OwnedBut none (freeBuf b s) := by
  obtain ⟨hq, hf, hs⟩ := h.loose b rfl
  have hb : (freeBuf b s).pool[b] = {} := (setBuf_getElem b b _ s).trans (if_pos rfl)
  refine h.settle (fun c hc => (setBuf_getElem b c _ s).trans (if_neg hc.symm)) (fun c _ => ⟨rfl, rfl, rfl⟩)
    ⟨?_, ?_, ?_, fun _ => by rw [hb]⟩ h.fillsU h.fillsD <;> rw [hb]
  · exact hq
  · exact hf
  · exact hs

/-- The buffer is marked QUEUED and one queue takes it. -/
theorem owned_queued {t : State} (hpool : t.pool = (markBuf b .queued s).pool)
    (hq : ∀ c, queuedCount t c = queuedCount s c + [b].count c) (hf : ∀ c, fillingCount t c = fillingCount s c)
    (hs : ∀ c, sendingCount t c = sendingCount s c) (hU : FillsInBody t.portU.rx) (hD : FillsInBody t.portD.rx) :
    OwnedBut none t := by
  obtain ⟨hq0, hf0, hs0⟩ := h.loose b rfl
  have hb : t.pool[b].state = .queued := by rw [hpool, markBuf_getElem, if_pos rfl]
  refine h.settle (fun c hc => ?_) (fun c hc => ⟨?_, hf c, hs c⟩) ⟨?_, ?_, ?_, fun hfree => ?_⟩ hU hD
  · rw [hpool, markBuf_getElem, if_neg hc.symm]
  · rw [hq, count_singleton_of_ne hc, Nat.add_zero]
  · rw [hq, hq0, List.count_singleton_self, if_pos hb]
  · rw [hf, hf0, if_neg (by rw [hb]; decide)]
  · rw [hs, hs0, if_neg (by rw [hb]; decide)]
  · rw [hb] at hfree; cases hfree

theorem owned_toPass : OwnedBut none (markBuf b .queued { s with stores := { s.stores with pass := s.stores.pass ++ [b] } }) := by
  refine owned_queued h rfl (fun c => ?_) (fun _ => rfl) (fun _ => rfl) h.fillsU h.fillsD
  show heldCount s c + (s.stores.pass ++ [b]).count c + s.stores.back.count c = _
  rw [queuedCount, List.count_append]
  omega

theorem owned_toBack : OwnedBut none (markBuf b .queued { s with stores := { s.stores with back := s.stores.back ++ [b] } }) := by
  refine owned_queued h rfl (fun c => ?_) (fun _ => rfl) (fun _ => rfl) h.fillsU h.fillsD
  show heldCount s c + s.stores.pass.count c + (s.stores.back ++ [b]).count c = _
  rw [queuedCount, List.count_append]
  omega

theorem owned_admitRecord (i : StreamId) : OwnedBut none (admitRecord i b s) := by
  refine owned_queued h rfl (fun c => ?_) (fun _ => rfl) (fun _ => rfl) h.fillsU h.fillsD
  have hset : heldCount (admitRecord i b s) c + heldBy (s.stream i) c = heldCount s c + heldBy ((admitRecord i b s).stream i) c := by
    have hx : (admitRecord i b s).stream i = _ := setQueue_stream_self i _ _
    rw [hx]
    exact heldCount_setStream i _ (markBuf b .queued s) c
  have hnew : heldBy ((admitRecord i b s).stream i) c = heldBy (s.stream i) c + [b].count c := by
    have hx : (admitRecord i b s).stream i = _ := setQueue_stream_self i _ _
    rw [hx]
    show ((((s.stream i).queue) ++ [_]).map Held.buffer).count c = _
    rw [List.map_append, List.count_append]
    rfl
  show heldCount (admitRecord i b s) c + s.stores.pass.count c + s.stores.back.count c = _
  unfold queuedCount
  omega

/-- The buffer is granted to a receiver and takes the header (R3, R21). -/
theorem owned_filled {p : Port} {rx : Receiver} {x : FrameBytes} (hnone : (s.port p).rx.buffer = none)
    (hrx : rx.buffer = some b) (hfill : FillsInBody rx) :
    OwnedBut none (setRx p rx (setBuf b { state := .filling, bytes := x } s)) := by
  obtain ⟨hq0, hf0, hs0⟩ := h.loose b rfl
  have hpool : ∀ c : BufId, (setRx p rx (setBuf b { state := .filling, bytes := x } s)).pool[c] =
      if b = c then { state := .filling, bytes := x } else s.pool[c] := by
    intro c
    rw [← setBuf_getElem]
    cases p <;> rfl
  have hb : (setRx p rx (setBuf b { state := .filling, bytes := x } s)).pool[b].state = .filling := by
    rw [hpool, if_pos rfl]
  have hq : ∀ c, queuedCount (setRx p rx (setBuf b { state := .filling, bytes := x } s)) c = queuedCount s c :=
    queuedCount_setRx p rx _
  have hs : ∀ c, sendingCount (setRx p rx (setBuf b { state := .filling, bytes := x } s)) c = sendingCount s c :=
    sendingCount_setRx p rx _
  have hf : ∀ c, fillingCount (setRx p rx (setBuf b { state := .filling, bytes := x } s)) c =
      fillingCount s c + [b].count c := by
    intro c
    have h1 := fillingCount_setRx p rx (setBuf b { state := .filling, bytes := x } s) c
    have hold : ((setBuf b { state := .filling, bytes := x } s).port p).rx.buffer = none := by cases p <;> exact hnone
    rwa [hold, hrx] at h1
  have hfills := fillsInBody_setRx p (s := setBuf b { state := .filling, bytes := x } s) h.fillsU h.fillsD hfill
  refine h.settle (fun c hc => ?_) (fun c hc => ⟨hq c, ?_, hs c⟩) ⟨?_, ?_, ?_, fun hfree => ?_⟩ hfills.1 hfills.2
  · rw [hpool, if_neg hc.symm]
  · rw [hf, count_singleton_of_ne hc, Nat.add_zero]
  · rw [hq, hq0, if_neg (by rw [hb]; decide)]
  · rw [hf, hf0, List.count_singleton_self, if_pos hb]
  · rw [hs, hs0, if_neg (by rw [hb]; decide)]
  · rw [hb] at hfree; cases hfree

/-- The buffer is marked SENDING and one transmitter reads it out. -/
theorem owned_sent {t : State} (hpool : t.pool = (markBuf b .sending s).pool)
    (hq : ∀ c, queuedCount t c = queuedCount s c) (hf : ∀ c, fillingCount t c = fillingCount s c)
    (hs : ∀ c, sendingCount t c = sendingCount s c + [b].count c) (hU : FillsInBody t.portU.rx)
    (hD : FillsInBody t.portD.rx) : OwnedBut none t := by
  obtain ⟨hq0, hf0, hs0⟩ := h.loose b rfl
  have hb : t.pool[b].state = .sending := by rw [hpool, markBuf_getElem, if_pos rfl]
  refine h.settle (fun c hc => ?_) (fun c hc => ⟨hq c, hf c, ?_⟩) ⟨?_, ?_, ?_, fun hfree => ?_⟩ hU hD
  · rw [hpool, markBuf_getElem, if_neg hc.symm]
  · rw [hs, count_singleton_of_ne hc, Nat.add_zero]
  · rw [hq, hq0, if_neg (by rw [hb]; decide)]
  · rw [hf, hf0, if_neg (by rw [hb]; decide)]
  · rw [hs, hs0, List.count_singleton_self, if_pos hb]
  · rw [hb] at hfree; cases hfree

theorem owned_startU (hidle : s.txU = none) (bytes : FrameBytes) :
    OwnedBut none (startU (.back b) bytes (markBuf b .sending s)) := by
  refine owned_sent h rfl (fun _ => rfl) (fun _ => rfl) (fun c => ?_) h.fillsU h.fillsD
  show [b].count c + (sendingD s.txD).count c = (sendingU s.txU).count c + (sendingD s.txD).count c + [b].count c
  rw [hidle]
  show _ = [].count c + _ + _
  rw [List.count_nil]
  omega

theorem owned_startD (hidle : s.txD = none) {src : SourceD} {bytes : FrameBytes} {n : Nat}
    (hsrc : sendingD (some { source := src, bytes := bytes, remaining := n }) = [b]) :
    OwnedBut none { markBuf b .sending s with txD := some { source := src, bytes := bytes, remaining := n } } := by
  refine owned_sent h rfl (fun _ => rfl) (fun _ => rfl) (fun c => ?_) h.fillsU h.fillsD
  show (sendingU s.txU).count c + (sendingD (some { source := src, bytes := bytes, remaining := n })).count c =
    (sendingU s.txU).count c + (sendingD s.txD).count c + [b].count c
  rw [hidle, hsrc]
  show _ = _ + [].count c + _
  rw [List.count_nil]
  omega

end Given

/-! ### Frames freed together, and bytes written -/

/-- Frames that leave a hold queue together are freed together (R23). -/
theorem ownedBut_freeHeld {o : Option BufId} {s : State} (h : OwnedBut o s) {i : StreamId} {q : List Held}
    {bs : List BufId}
    (hsplit : ∀ c, heldBy (s.stream i) c = (q.map Held.buffer).count c + bs.count c) :
    OwnedBut o (freeBufs bs (setQueue i q s)) := by
  have hcount : ∀ c, queuedCount (freeBufs bs (setQueue i q s)) c + bs.count c = queuedCount s c := by
    intro c
    have hset := heldCount_setStream i { s.stream i with queue := q } s c
    have hnew : heldBy { s.stream i with queue := q } c = (q.map Held.buffer).count c := rfl
    rw [hsplit c, hnew] at hset
    have hheld : heldCount (freeBufs bs (setQueue i q s)) c = heldCount (setStream i { s.stream i with queue := q } s) c := by
      rw [freeBufs_eq]; rfl
    have hstores : (freeBufs bs (setQueue i q s)).stores = s.stores := by rw [freeBufs_eq]; rfl
    unfold queuedCount
    rw [hheld, hstores]
    omega
  have hf : ∀ c, fillingCount (freeBufs bs (setQueue i q s)) c = fillingCount s c := by
    intro c; rw [freeBufs_eq]; rfl
  have hs : ∀ c, sendingCount (freeBufs bs (setQueue i q s)) c = sendingCount s c := by
    intro c; rw [freeBufs_eq]; rfl
  have hfills : FillsInBody (freeBufs bs (setQueue i q s)).portU.rx ∧ FillsInBody (freeBufs bs (setQueue i q s)).portD.rx := by
    rw [freeBufs_eq]; exact ⟨h.fillsU, h.fillsD⟩
  refine ⟨fun c hc => ?_, fun c hc => ?_, hfills.1, hfills.2⟩
  · have hown := h.owned c hc
    have hle := hown.holders_le_one
    have hq := hcount c
    have hpool := freeBufs_getElem bs (setQueue i q s) c
    by_cases hm : c ∈ bs
    · have hpos := List.count_pos_iff.2 hm
      rw [if_pos hm] at hpool
      refine ⟨?_, ?_, ?_, fun _ => by rw [hpool]⟩ <;> rw [hpool]
      · show _ = 0
        omega
      · rw [hf]
        show _ = 0
        omega
      · rw [hs]
        show _ = 0
        omega
    · rw [if_neg hm] at hpool
      rw [List.count_eq_zero.2 hm, Nat.add_zero] at hq
      exact hown.congr hpool ⟨hq, hf c, hs c⟩
  · have hloose := h.loose c hc
    have hq := hcount c
    rw [hf, hs]
    omega

/-- A byte written into a buffer that is not FREE changes no owner. -/
theorem owned_writeBuf {s : State} (h : OwnedBut none s) {b : BufId} (hb : s.pool[b].state ≠ .free) (x : Byte) :
    OwnedBut none (writeBuf b x s) := by
  have hpool : ∀ c : BufId, (writeBuf b x s).pool[c] =
      if b = c then { s.pool[b] with bytes := s.pool[b].bytes ++ [x] } else s.pool[c] := fun c => setBuf_getElem b c _ s
  have hstate : ∀ c : BufId, (writeBuf b x s).pool[c].state = s.pool[c].state := by
    intro c
    rw [hpool]
    split
    · rename_i hc; rw [hc]
    · rfl
  refine ⟨fun c _ => ?_, fun c hc => (by cases hc), h.fillsU, h.fillsD⟩
  obtain ⟨hq, hf, hs, hfree⟩ := h.owned c (by simp)
  refine ⟨?_, ?_, ?_, fun hst => ?_⟩
  · rw [hstate]; exact hq
  · rw [hstate]; exact hf
  · rw [hstate]; exact hs
  · rw [hstate] at hst
    have hne : b ≠ c := fun e => hb (e ▸ hst)
    rw [hpool, if_neg hne]
    exact hfree hst

/-- A buffer that a receiver fills is FILLING (R19). -/
theorem filling_of_rx {s : State} (h : OwnedBut none s) {p : Port} {b : BufId} (hb : (s.port p).rx.buffer = some b) :
    s.pool[b].state = .filling := by
  have hmem : b ∈ fillingBuffers s := by
    unfold fillingBuffers
    cases p with
    | u => rw [show s.portU.rx.buffer = some b from hb]; simp
    | d => rw [show s.portD.rx.buffer = some b from hb]; simp
  have hpos : 0 < fillingCount s b := List.count_pos_iff.2 hmem
  rw [(h.owned b (by simp)).filling] at hpos
  by_contra hne
  rw [if_neg hne] at hpos
  exact lt_irrefl 0 hpos

/-- The receiver changes, but not the buffer it fills. -/
theorem ownedBut_setRx {o : Option BufId} {s : State} (h : OwnedBut o s) {p : Port} {rx : Receiver}
    (hrx : rx.buffer = (s.port p).rx.buffer) (hfill : FillsInBody rx) : OwnedBut o (setRx p rx s) := by
  have hf : ∀ c, fillingCount (setRx p rx s) c = fillingCount s c := by
    intro c
    have h1 := fillingCount_setRx p rx s c
    rw [hrx] at h1
    exact Nat.add_right_cancel h1
  have hq := queuedCount_setRx p rx s
  have hs := sendingCount_setRx p rx s
  have hpool : (setRx p rx s).pool = s.pool := setPort_pool s p _
  obtain ⟨hU, hD⟩ := fillsInBody_setRx p h.fillsU h.fillsD hfill
  refine ⟨fun c hc => (h.owned c hc).congr (by rw [hpool]) ⟨hq c, hf c, hs c⟩, fun c hc => ?_, hU, hD⟩
  rw [hq, hf, hs]
  exact h.loose c hc

end Sys2Proof.Invariants
end

section
/-! PROOF. The ownership of the pool as an invariant of the running part, and the settling of the obligation on it (R3,
R19, R20, R23, R24). -/

namespace Sys2Proof.Invariants

open Sys2Proof.Machine Sys2Proof.Safety Sys2Proof.Claims Sys2Proof.Link

/-! ### What the ownership does not look at -/

theorem poolView_report (o : Occurrence) (s : State) : poolView (report o s) = poolView s := by
  rw [report_eq]; rfl

/-- A change of an entry that leaves its queue. -/
theorem poolView_setStream (s : State) {i : StreamId} {x : Stream} (h : x.queue = (s.stream i).queue) :
    poolView (setStream i x s) = poolView s := by
  have hqueues : (fun j => ((setStream i x s).stream j).queue) = fun j => (s.stream j).queue := by
    funext j
    rw [setStream_stream]
    split
    · rename_i hj; rw [← hj, h]
    · rfl
  unfold poolView
  rw [hqueues]
  rfl

theorem poolView_countStream (i : StreamId) (f : StreamCounters → StreamCounters) (s : State) :
    poolView (countStream i f s) = poolView s := poolView_setStream s rfl

/-- A change of a port that leaves its receiver. -/
theorem poolView_setPort (s : State) {p : Port} {x : PortState} (h : x.rx = (s.port p).rx) :
    poolView (s.setPort p x) = poolView s := by
  cases p
  · show (_, _, _, _, x.rx, _) = _; rw [h]; rfl
  · show (_, _, _, _, _, x.rx, _) = _; rw [h]; rfl

theorem poolView_raiseRequest (s : State) : poolView (raiseRequest s) = poolView s := by
  rw [raiseRequest_eq]; rfl

theorem poolView_raiseFor (i : StreamId) (s : State) : poolView (raiseFor i s) = poolView s := by
  rw [raiseFor_eq]; rfl

theorem poolView_withdrawIfEmpty (i : StreamId) (s : State) : poolView (withdrawIfEmpty i s) = poolView s := by
  rw [withdrawIfEmpty_eq]; rfl

theorem poolView_gateEnds (before after : State) : poolView (gateEnds before after) = poolView after := by
  rw [gateEnds_eq]; rfl

theorem poolView_reportSync (old : SyncMode) (s : State) : poolView (reportSync old s) = poolView s := by
  rw [reportSync_eq]; rfl

theorem poolView_closeWindow (s : State) : poolView (closeWindow s) = poolView s := by
  have hmissed : poolView (missedCheck s) = poolView s := by
    unfold missedCheck
    split
    · split
      · exact (poolView_report _ _).trans (poolView_countStream _ _ s)
      · rfl
    · rfl
  have hend : ∀ t : State, poolView (endWindow t) = poolView t := by
    intro t
    rcases endWindow_eq t with ⟨-, he⟩ | ⟨w, -, he⟩ <;> rw [he]
    rfl
  exact (hend _).trans hmissed

section

variable {o : Option BufId} {s : State} (h : OwnedBut o s)
include h

theorem ownedBut_report (x : Occurrence) : OwnedBut o (report x s) := ownedBut_of_view h (poolView_report x s)

theorem ownedBut_countStream (i : StreamId) (f : StreamCounters → StreamCounters) : OwnedBut o (countStream i f s) :=
  ownedBut_of_view h (poolView_countStream i f s)

theorem ownedBut_countPort (p : Port) (f : PortCounters → PortCounters) : OwnedBut o (countPort p f s) :=
  ownedBut_of_view h (poolView_setPort s rfl)

theorem ownedBut_offerRequest : OwnedBut o (offerRequest s) :=
  ownedBut_of_view h (by rw [offerRequest_frame]; rfl)

theorem ownedBut_supersedeHead (i : StreamId) : OwnedBut o (supersedeHead i s) := by
  unfold supersedeHead
  split
  · rename_i r q hq
    have hsplit : ∀ c, heldBy (s.stream i) c = (q.map Held.buffer).count c + [r.buffer].count c := by
      intro c
      rw [heldBy, hq, List.map_cons, ← List.singleton_append, List.count_append, Nat.add_comm]
    exact ownedBut_report (ownedBut_countStream (ownedBut_freeHeld h hsplit) i _) _
  · exact h

/-- Purging an entry frees the frames it held (R52). -/
theorem ownedBut_purgeQueue (i : StreamId) : OwnedBut o (purgeQueue i s) := by
  have hcomm : ∀ (bs : List BufId) (x : Stream) (t : State), freeBufs bs (setStream i x t) = setStream i x (freeBufs bs t) := by
    intro bs x
    induction bs with
    | nil => exact fun _ => rfl
    | cons b bs ih => exact fun t => ih (freeBuf b t)
  have hfree := ownedBut_freeHeld h (i := i) (q := []) (bs := (s.stream i).queue.map Held.buffer) fun c => by
    rw [List.map_nil, List.count_nil, Nat.zero_add]; rfl
  have hqueue : setQueue i [] (freeBufs ((s.stream i).queue.map Held.buffer) s) =
      freeBufs ((s.stream i).queue.map Held.buffer) (setQueue i [] s) := by
    have hentry : (freeBufs ((s.stream i).queue.map Held.buffer) s).stream i = s.stream i := by rw [freeBufs_eq]; rfl
    unfold setQueue
    rw [hcomm, hentry]
  rw [← hqueue] at hfree
  exact ownedBut_of_view (ownedBut_countStream hfree i _) (poolView_withdrawIfEmpty i _)

end

/-! ### Frames received (R3 to R13) -/

/-- Only a receiver in BODY fills a buffer. -/
theorem rxBuffer_none {s : State} (h : OwnedBut none s) {p : Port} (hb : (s.port p).rx.state ≠ .body) :
    (s.port p).rx.buffer = none := by
  have hfill : FillsInBody (s.port p).rx := by
    cases p
    · exact h.fillsU
    · exact h.fillsD
  by_contra hne
  exact hb (hfill (Option.isSome_iff_ne_none.2 hne)).1

theorem fillsInBody_port {o : Option BufId} {s : State} (h : OwnedBut o s) (p : Port) : FillsInBody (s.port p).rx := by
  cases p
  · exact h.fillsU
  · exact h.fillsD

/-- A receiver that fills nothing goes on to fill nothing. -/
theorem owned_setRx_none {s : State} (h : OwnedBut none s) {p : Port} {rx : Receiver}
    (hs : (s.port p).rx.state ≠ .body) (hrx : rx.buffer = none) : OwnedBut none (setRx p rx s) :=
  ownedBut_setRx h (hrx.trans (rxBuffer_none h hs).symm) (fillsInBody_of_none hrx)

/-- A byte of BODY goes into the buffer the receiver fills (R3). -/
theorem owned_bodyByte {s : State} (h : OwnedBut none s) (p : Port) (b : Byte) : OwnedBut none (bodyByte p b s) := by
  have hareas : ∀ {t : State} {m g : FrameBytes}, OwnedBut none t → OwnedBut none { t with markArea := m, mgmtArea := g } :=
    fun ht => ownedBut_of_view ht rfl
  have hwritten : OwnedBut none (writeByte (s.port p).rx b s) := by
    unfold writeByte
    split
    · extract_lets u
      have hu : u = { s with markArea := u.markArea, mgmtArea := u.mgmtArea } := by
        show (match (s.port p).rx.route with | _ => _) = _
        unfold u
        rcases (s.port p).rx.route with _ | (_ | _ | _ | _ | _ | _ | _ | _) <;> rfl
      have hown : OwnedBut none u := by rw [hu]; exact hareas h
      split
      · rename_i x hx
        have hxu : (u.port p).rx.buffer = some x := by rw [hu]; cases p <;> exact hx
        exact owned_writeBuf hown (by rw [filling_of_rx hown hxu]; decide) b
      · exact hown
    · exact h
  have hport : (writeByte (s.port p).rx b s).port p = s.port p := writeByte_port _ _ _ _
  refine ownedBut_setRx hwritten (by rw [hport]; rfl) ?_
  exact fillsInBody_port h p

theorem owned_byteEvent {s : State} (h : OwnedBut none s) (p : Port) (b : Byte) : OwnedBut none (byteEvent p b s) := by
  unfold byteEvent
  dsimp only
  split
  · rename_i hs; exact owned_setRx_none h (by rw [hs]; decide) rfl
  · rename_i hs
    split
    · exact h
    · exact ownedBut_setRx h rfl (fillsInBody_port h p)
  · exact owned_bodyByte h p b
  · exact h

theorem writeHeader_of_none {rx : Receiver} (h : rx.buffer = none) (s : State) :
    ∃ m g, writeHeader rx s = { s with markArea := m, mgmtArea := g } := by
  unfold writeHeader
  rw [h]
  rcases rx.route with _ | (_ | _ | _ | _ | _ | _ | _ | _) <;> exact ⟨_, _, rfl⟩

theorem writeHeader_of_some {rx : Receiver} {x : BufId} (h : rx.buffer = some x) (s : State) :
    ∃ m g, writeHeader rx s = setBuf x { state := .filling, bytes := rx.header } { s with markArea := m, mgmtArea := g } := by
  unfold writeHeader
  rw [h]
  rcases rx.route with _ | (_ | _ | _ | _ | _ | _ | _ | _) <;> exact ⟨_, _, rfl⟩

theorem owned_enterBody_none {s : State} (h : OwnedBut none s) {p : Port} (rx : Receiver) (r : Route)
    (hs : (s.port p).rx.state ≠ .body) : OwnedBut none (enterBody p rx r none s) := by
  obtain ⟨m, g, he⟩ := writeHeader_of_none (rx := { rx with state := .body, route := some r, buffer := none }) rfl s
  show OwnedBut none (setRx p _ (writeHeader _ s))
  rw [he]
  have hown : OwnedBut none { s with markArea := m, mgmtArea := g } := ownedBut_of_view h rfl
  refine owned_setRx_none hown ?_ ?_
  · cases p <;> exact hs
  · rfl

/-- The pool grants its lowest FREE buffer to a receiver that enters BODY (R3, R21). -/
theorem owned_enterBody_some {s : State} (h : OwnedBut none s) {p : Port} (rx : Receiver) {r : Route} {x : BufId}
    (hr : r.needsBuffer = true) (hx : lowestFree s = some x) (hs : (s.port p).rx.state ≠ .body) :
    OwnedBut none (enterBody p rx r (some x) s) := by
  obtain ⟨m, g, he⟩ := writeHeader_of_some (rx := { rx with state := .body, route := some r, buffer := some x }) rfl s
  show OwnedBut none (setRx p _ (writeHeader _ s))
  rw [he]
  have hloose : OwnedBut (some x) { s with markArea := m, mgmtArea := g } :=
    ownedBut_of_view (ownedBut_of_free h (lowestFree_some hx).1) rfl
  refine owned_filled hloose ?_ rfl fun _ => ⟨rfl, r, rfl, hr⟩
  cases p <;> exact rxBuffer_none h hs

theorem owned_refuseBuffer {s : State} (h : OwnedBut none s) (p : Port) : OwnedBut none (refuseBuffer p s) :=
  ownedBut_report (ownedBut_countPort h p _) _

theorem refuseBuffer_rx (p : Port) (s : State) : ((refuseBuffer p s).port p).rx = (s.port p).rx := by
  unfold refuseBuffer
  rw [report_eq]
  cases p <;> rfl

theorem owned_headerEvent {s : State} (h : OwnedBut none s) {p : Port} (hdue : headerDue p s = true) (b : Byte) :
    OwnedBut none (headerEvent p b s) := by
  have hs : (s.port p).rx.state ≠ .body := by
    simp only [headerDue, Bool.and_eq_true, beq_iff_eq] at hdue
    rw [hdue.1]
    decide
  have hs' : ((refuseBuffer p s).port p).rx.state ≠ .body := by rw [refuseBuffer_rx]; exact hs
  rcases headerEvent_cases p b s with he | ⟨r, he⟩ <;> rw [he]
  · exact ownedBut_countPort (owned_setRx_none h hs rfl) p _
  · rcases takeResource_cases p (rxByte (s.port p).rx b) r s with ⟨-, he⟩ | ⟨-, he⟩ | ⟨x, hr, hx, he⟩ <;> rw [he]
    · exact owned_enterBody_none h _ r hs
    · rcases afterRefusal_cases p (rxByte (s.port p).rx b) r s with ⟨-, he⟩ | he <;> rw [he]
      · exact owned_enterBody_none (owned_refuseBuffer h p) _ _ hs'
      · exact owned_setRx_none (owned_refuseBuffer h p) hs' rfl
    · exact owned_enterBody_some h _ hr hx hs

/-! ### The end of a frame (R5, R6, R9, R10, R17) -/

section Delivered

variable {s : State} {b : BufId} (h : OwnedBut (some b) s)
include h

theorem owned_passAppend : OwnedBut none (passAppend b s) := by
  unfold passAppend
  split
  · exact owned_toPass h
  · exact ownedBut_of_view (owned_freeBuf h) rfl

theorem owned_backAppend : OwnedBut none (backAppend b s) := by
  unfold backAppend
  split
  · exact owned_toBack h
  · exact ownedBut_of_view (owned_freeBuf h) rfl

/-- An admitted frame is queued, a refused one freed; a superseded head is freed (R38 to R40). -/
theorem owned_admitFrame (i : StreamId) : OwnedBut none (admitFrame i b s) := by
  have hcount := ownedBut_countStream h i fun c => { c with arrived := c.arrived + 1 }
  have hadmit : ∀ {t : State}, OwnedBut (some b) t → OwnedBut none (raiseFor i (admitRecord i b t)) :=
    fun ht => ownedBut_of_view (owned_admitRecord ht i) (poolView_raiseFor i _)
  unfold admitFrame
  extract_lets u
  split
  · exact hadmit hcount
  · split
    · exact hadmit (ownedBut_supersedeHead hcount i)
    · exact ownedBut_report (ownedBut_countStream (owned_freeBuf hcount) i _) _

theorem owned_recheck (i : StreamId) (tag : Tag) : OwnedBut none (recheck i tag b s) := by
  unfold recheck
  split
  · exact owned_admitFrame h i
  · split
    · exact owned_passAppend h
    · exact ownedBut_of_view (owned_freeBuf h) rfl

theorem owned_deliver_some {rx : Receiver} (hb : rx.buffer = some b) {r : Route} (hr : rx.route = some r)
    (hneeds : r.needsBuffer = true) : OwnedBut none (deliver rx s) := by
  unfold deliver
  rw [hb, hr]
  cases r with
  | hold i => exact owned_recheck h i _
  | pass => exact owned_passAppend h
  | back => exact owned_backAppend h
  | broadcast => exact owned_passAppend (ownedBut_offerRequest h)
  | drop => cases hneeds
  | mark => cases hneeds
  | mgmt => cases hneeds
  | misdirected => cases hneeds

theorem owned_releaseResource_some {rx : Receiver} (hb : rx.buffer = some b) : OwnedBut none (releaseResource rx s) := by
  have he : releaseResource rx s = { freeBuf b s with markArea := (releaseResource rx s).markArea, mgmtArea := (releaseResource rx s).mgmtArea } := by
    unfold releaseResource
    rw [hb]
    rcases rx.route with _ | (_ | _ | _ | _ | _ | _ | _ | _) <;> rfl
  rw [he]
  exact ownedBut_of_view (owned_freeBuf h) rfl

end Delivered

theorem owned_deliver_none {s : State} (h : OwnedBut none s) {rx : Receiver} (hb : rx.buffer = none) :
    OwnedBut none (deliver rx s) := by
  unfold deliver
  rw [hb]
  rcases rx.route with _ | (i | _ | _ | _ | _ | _ | _ | _)
  · exact h
  · exact h
  · exact h
  · exact ownedBut_of_view h rfl
  · exact ownedBut_of_view h (by rw [deliverMark_frame]; rfl)
  · exact ownedBut_offerRequest h
  · exact ownedBut_offerRequest h
  · exact h
  · exact h

theorem owned_releaseResource_none {s : State} (h : OwnedBut none s) {rx : Receiver} (hb : rx.buffer = none) :
    OwnedBut none (releaseResource rx s) := by
  have he : releaseResource rx s = { s with markArea := (releaseResource rx s).markArea, mgmtArea := (releaseResource rx s).mgmtArea } := by
    unfold releaseResource
    rw [hb]
    rcases rx.route with _ | (_ | _ | _ | _ | _ | _ | _ | _) <;> rfl
  rw [he]
  exact ownedBut_of_view h rfl

/-- A receiver in BODY whose frame ends badly gives its buffer back (R5, R17). -/
theorem owned_released {s : State} (h : OwnedBut none s) (p : Port) :
    OwnedBut none (releaseResource (s.port p).rx (setRx p {} s)) := by
  cases hb : (s.port p).rx.buffer with
  | none => exact owned_releaseResource_none (ownedBut_setRx h hb.symm (fillsInBody_of_none rfl)) hb
  | some b => exact owned_releaseResource_some (ownedBut_rxReset h hb) hb

theorem ownedBut_countGood {o : Option BufId} {s : State} (h : OwnedBut o s) (p : Port) (r : Option Route) :
    OwnedBut o (countGood p r s) := by
  unfold countGood
  split <;> exact ownedBut_countPort h p _

/-- A good frame's buffer goes to the queue of its route, or is freed (R6). -/
theorem owned_delivered {s : State} (h : OwnedBut none s) (p : Port) :
    OwnedBut none (deliver (s.port p).rx (countGood p (s.port p).rx.route (setRx p {} s))) := by
  cases hb : (s.port p).rx.buffer with
  | none =>
    exact owned_deliver_none (ownedBut_countGood (ownedBut_setRx h hb.symm (fillsInBody_of_none rfl)) p _) hb
  | some b =>
    obtain ⟨-, r, hr, hneeds⟩ := fillsInBody_port h p (by rw [hb]; rfl)
    exact owned_deliver_some (ownedBut_countGood (ownedBut_rxReset h hb) p _) hb hr hneeds

theorem owned_endEvent {s : State} (h : OwnedBut none s) (p : Port) (b : Byte) : OwnedBut none (endEvent p b s) := by
  unfold endEvent
  split
  · rename_i hs; exact owned_setRx_none h (by rw [hs]; decide) rfl
  · exact ownedBut_countPort h p _
  · rename_i hs; exact ownedBut_countPort (owned_setRx_none h (by rw [hs]; decide) rfl) p _
  · have hbody := owned_bodyByte h p b
    dsimp only
    unfold endBody
    dsimp only
    split
    · exact ownedBut_countPort (owned_released hbody p) p _
    · exact ownedBut_countPort (owned_released hbody p) p _
    · exact owned_delivered hbody p

theorem owned_cutFrame {s : State} (h : OwnedBut none s) (p : Port) : OwnedBut none (cutFrame p s) := by
  unfold cutFrame
  dsimp only
  split
  · exact h
  · rename_i hs; exact owned_setRx_none h (by rw [hs]; decide) rfl
  · rename_i hs; exact ownedBut_countPort (owned_setRx_none h (by rw [hs]; decide) rfl) p _
  · exact ownedBut_countPort (owned_released h p) p _

theorem owned_changeLink {s : State} (h : OwnedBut none s) (p : Port) (l : Link) : OwnedBut none (changeLink p l s) := by
  have hlink : OwnedBut none (setLink p l s) := ownedBut_of_view h (poolView_setPort s rfl)
  have hrep := fun o => ownedBut_report (ownedBut_countPort hlink p fun c => { c with linkChanges := c.linkChanges + 1 }) o
  unfold changeLink
  dsimp only
  split
  · exact owned_cutFrame (hrep _) p
  · exact hrep _

/-! ### Transmissions (R14, R26, R28, R33, R43, R90) -/

theorem owned_completeD {s : State} (h : OwnedBut none s) {t : Transmission SourceD} (ht : s.txD = some t) :
    OwnedBut none (completeD t s) := by
  obtain ⟨src, bytes, n⟩ := t
  rw [completeD_eq_tellD]
  cases src with
  | mark =>
    refine ownedBut_of_view h ?_
    show (_, _, _, _, _, _, _, []) = (_, _, _, _, _, _, _, sendingD s.txD)
    rw [ht]
    rfl
  | pass b => exact ownedBut_of_view (owned_freeBuf (ownedBut_idledD h (b := b) (by rw [ht]; rfl))) rfl
  | release b attached =>
    have hfreed := owned_freeBuf (ownedBut_idledD h (b := b) (by rw [ht]; rfl))
    show OwnedBut none (releaseCompleted b attached (idledD s))
    unfold releaseCompleted
    extract_lets u v
    have hv : OwnedBut none v := by
      cases attached with
      | none => exact hfreed
      | some i => exact ownedBut_countStream hfreed i _
    exact ownedBut_of_view (ownedBut_of_view hv rfl) (poolView_raiseRequest _)

theorem sendingD_restartTx (s : State) : ∀ t, sendingD (t.map (restartTx s)) = sendingD t
  | none => rfl
  | some ⟨.mark, _, _⟩ => rfl
  | some ⟨.pass _, _, _⟩ => rfl
  | some ⟨.release _ none, _, _⟩ => rfl
  | some ⟨.release b (some i), bytes, n⟩ => by
    show sendingD (some (if (s.stream i).locked then _ else _)) = _
    split <;> rfl

theorem restartBuffer_cases (b : Buffer) :
    b.state = .sending ∧ restartBuffer b = b ∨ b.state ≠ .sending ∧ restartBuffer b = {} := by
  unfold restartBuffer
  split <;> simp [*]

/-- A restart frees every buffer but the one a port D transmission is reading out (R18, R24). -/
theorem owned_restartValues {s : State} (h : OwnedBut none s) (hU : sendingU s.txU = []) :
    OwnedBut none (restartValues s) := by
  have hpool : ∀ c : BufId, (restartValues s).pool[c] = restartBuffer s.pool[c] := fun c =>
    mapVector_getElem restartBuffer s.pool c c.isLt
  have hqueued : ∀ c, queuedCount (restartValues s) c = 0 := by
    intro c
    have hheld : heldCount (restartValues s) c = 0 := by
      refine Finset.sum_eq_zero fun i _ => ?_
      rw [restartValues_stream]
      unfold restartStream
      split <;> rfl
    unfold queuedCount
    rw [hheld]
    rfl
  have hrx : ∀ x : PortState, (restartPort x).rx.buffer = none := by
    intro x
    show (restartRx x.rx).buffer = none
    unfold restartRx
    split <;> rfl
  have hfilling : ∀ c, fillingCount (restartValues s) c = 0 := by
    intro c
    show ((restartPort s.portU).rx.buffer.toList ++ (restartPort s.portD).rx.buffer.toList).count c = 0
    rw [hrx, hrx]
    rfl
  have hsending : ∀ c, sendingCount (restartValues s) c = sendingCount s c := by
    intro c
    show [].count c + (sendingD (s.txD.map (restartTx s))).count c = _
    rw [sendingD_restartTx, sendingCount, hU]
  refine ⟨fun c _ => ?_, fun c hc => (by cases hc), fillsInBody_of_none (hrx _), fillsInBody_of_none (hrx _)⟩
  have hs := (h.owned c (by simp)).sending
  rcases restartBuffer_cases s.pool[c] with ⟨hst, hb⟩ | ⟨hst, hb⟩ <;> rw [← hpool] at hb
  · refine ⟨?_, ?_, ?_, fun hfree => ?_⟩
    · rw [hqueued, hb, hst]; rfl
    · rw [hfilling, hb, hst]; rfl
    · rw [hsending, hs, hb]
    · rw [hb, hst] at hfree; cases hfree
  · refine ⟨?_, ?_, ?_, fun _ => by rw [hb]⟩
    · rw [hqueued, hb]; rfl
    · rw [hfilling, hb]; rfl
    · rw [hsending, hs, hb, if_neg hst]; rfl

theorem owned_completeU {s : State} (h : OwnedBut none s) {t : Transmission SourceU} (ht : s.txU = some t) :
    OwnedBut none (completeU t s) := by
  have hidle : sendingU (some t) = [] → OwnedBut none (idledU s) := by
    intro he
    refine ownedBut_of_view h ?_
    show (_, _, _, _, _, _, [], _) = (_, _, _, _, _, _, sendingU s.txU, _)
    rw [ht, he]
    rfl
  have hnone : ∀ {src : SourceU}, t.source = src → sendingU (some t) = sendingU (some { t with source := src }) := by
    rintro src rfl; rfl
  rcases completeU_cases t s with ⟨x, hsrc, he⟩ | ⟨hsrc, he⟩ | ⟨hsrc, he⟩
  · rw [he]
    exact ownedBut_of_view (owned_freeBuf (ownedBut_idledU h (b := x) (by rw [ht, hnone hsrc]; rfl))) rfl
  · have hown := hidle (hnone hsrc)
    rcases he with he | he | ⟨-, he⟩ <;> rw [he]
    · exact hown
    · exact owned_restartValues hown rfl
    · exact ownedBut_of_view hown rfl
  · rw [he]
    exact ownedBut_of_view (hidle (hnone hsrc)) rfl

theorem owned_arbiterU {s : State} (h : OwnedBut none s) : OwnedBut none (arbiterU s) := by
  rcases arbiterU_cases s with he | ⟨hidle, ⟨b, q, hb, he⟩ | ⟨r, he⟩ | ⟨r, -, he⟩⟩ <;> rw [he]
  · exact h
  · exact owned_startU (ownedBut_of_view (ownedBut_backTail h hb) (t := setLast .back { s with stores := { s.stores with back := q } }) rfl) hidle _
  · refine ownedBut_of_view h ?_
    show (_, _, _, _, _, _, [], _) = (_, _, _, _, _, _, sendingU s.txU, _)
    rw [hidle]
    rfl
  · refine ownedBut_of_view h ?_
    show (_, _, _, _, _, _, [], _) = (_, _, _, _, _, _, sendingU s.txU, _)
    rw [hidle]
    rfl

theorem owned_arbiterD {s : State} (h : OwnedBut none s) : OwnedBut none (arbiterD s) := by
  rcases arbiterD_cases s with he | ⟨hidle, ⟨m, he⟩ | ⟨w, r, q, -, -, hq, he⟩ | ⟨b, q, hb, he⟩⟩ <;> rw [he]
  · exact h
  · refine ownedBut_of_view h ?_
    show (_, _, _, _, _, _, _, []) = (_, _, _, _, _, _, _, sendingD s.txD)
    rw [hidle]
    rfl
  · have hsent := owned_startD (ownedBut_holdTail h hq) hidle (src := .release r.buffer (some w.stream))
      (bytes := s.pool[r.buffer].bytes) (n := occupancy (lenOf s.pool[r.buffer].bytes)) rfl
    refine ownedBut_of_view hsent ?_
    rw [grantRelease_eq]
    rfl
  · have hsent := owned_startD (ownedBut_passTail h hb) hidle (src := .pass b)
      (bytes := s.pool[b].bytes) (n := occupancy (lenOf s.pool[b].bytes)) rfl
    refine ownedBut_of_view hsent ?_
    rw [grantPass_eq]
    rfl

/-! ### Requests (R46 to R52) -/

theorem sendingD_detach (i : StreamId) (s : State) : sendingD (detach i s).txD = sendingD s.txD := by
  unfold detach
  split
  · rename_i t ht
    obtain ⟨src, bytes, n⟩ := t
    dsimp only
    split
    · split
      · rw [ht]; simp_all [sendingD]
      · rfl
    all_goals rfl
  · rfl

theorem owned_deleteStream {s : State} (h : OwnedBut none s) (i : StreamId) : OwnedBut none (deleteStream i s) := by
  have hset : OwnedBut none (setStream i { (purgeQueue i s).stream i with valid := false, counters := {} } (purgeQueue i s)) :=
    ownedBut_of_view (ownedBut_purgeQueue h i) (poolView_setStream _ rfl)
  refine ownedBut_of_view hset ?_
  show poolView (detach i _) = _
  rw [detach_eq]
  show (_, _, _, _, _, _, _, sendingD (detach i _).txD) = _
  rw [sendingD_detach]
  rfl

/-- An entry written keeps its queue: an invalid one holds nothing (R37, R46). -/
theorem writtenStream_queue {x : Stream} (h : EntryBounded x) (w : StreamWriteArgs) :
    (writtenStream x w).queue = x.queue := by
  unfold writtenStream
  split
  · rfl
  · rename_i hv
    exact (h.invalidEmpty (by simpa using hv)).1.symm

theorem owned_effect {s t : State} (hb : StreamsBounded s) (h : OwnedBut none s) (he : Effect s t) : OwnedBut none t := by
  cases he with
  | writeStream => exact ownedBut_of_view h (poolView_setStream s (writtenStream_queue (hb _) _))
  | deleteStream => exact owned_deleteStream h _
  | lockStream => exact ownedBut_of_view h (poolView_setStream s rfl)
  | purge => exact ownedBut_purgeQueue h _
  | hold limit => exact ownedBut_of_view h (poolView_gateEnds s _)
  | configureSync => exact ownedBut_of_view h ((poolView_gateEnds s _).trans (poolView_reportSync _ _))
  | zero g =>
    cases g with
    | port p => exact ownedBut_countPort h p fun _ => {}
    | stream i => exact ownedBut_countStream h i fun _ => {}
    | _ => exact ownedBut_of_view h rfl
  | _ => exact ownedBut_of_view h rfl

/-! ### The invariant -/

/-- The stream entries are bounded, and the pool is owned. -/
def PoolKept (s : State) : Prop := StreamsBounded s ∧ OwnedBut none s

theorem poolKept_report {s : State} (o : Occurrence) (h : PoolKept s) : PoolKept (report o s) :=
  ⟨streamsBounded_report o h.1, ownedBut_report h.2 o⟩

theorem poolKept_answered {f : FrameBytes} {s t : State} (h : PoolKept s) (ht : Answered f (takeHead s) t) :
    PoolKept t :=
  answered_keeps (I := PoolKept) (fun hs he => ⟨streamsBounded_effect hs.1 he, owned_effect hs.1 hs.2 he⟩)
    (fun _ hs => ⟨hs.1, ownedBut_of_view hs.2 rfl⟩) (fun o hs => poolKept_report o hs) h ht

theorem owned_event {s t : State} (hb : StreamsBounded s) (h : OwnedBut none s) (he : Event s t) : OwnedBut none t := by
  cases he with
  | header p b hdue => exact owned_headerEvent h hdue b
  | frameEnd p b => exact owned_endEvent h p b
  | link p l => exact owned_changeLink h p l
  | completeD ht => exact owned_completeD h ht
  | completeU ht => exact owned_completeU h ht
  | engine =>
    exact engineEvent_keeps (I := OwnedBut none) (fun hs => ownedBut_of_view hs (poolView_closeWindow _))
      (fun hs => ownedBut_of_view hs (by rw [takeSlot_eq]; rfl)) h
  | request _ ht => exact (poolKept_answered ⟨hb, h⟩ ht).2

theorem sendingU_elapse (t : Option (Transmission SourceU)) : sendingU (elapse t) = sendingU t := by cases t <;> rfl

theorem sendingD_elapse (t : Option (Transmission SourceD)) : sendingD (elapse t) = sendingD t := by cases t <;> rfl

theorem owned_quiet {s t : State} (h : OwnedBut none s) (he : Quiet s t) : OwnedBut none t := by
  have helapse : poolView (elapseBoth s) = poolView s := by
    show (_, _, _, _, _, _, sendingU (elapse s.txU), sendingD (elapse s.txD)) = _
    rw [sendingU_elapse, sendingD_elapse]
    rfl
  cases he with
  | byte p b => exact owned_byteEvent h p b
  | cycFall => exact ownedBut_of_view h rfl
  | advance => exact ownedBut_of_view h helapse
  | comeToWrap => exact ownedBut_of_view h helapse

/-- The records kept and the records removed by an ageing hold the buffers that the queue held (R44). -/
theorem heldBy_ageing (x : Stream) (c : BufId) :
    heldBy x c = (((x.queue.map aged).filter fun r => !isStale x.ageLimit r).map Held.buffer).count c +
      ((staleAt x).map Held.buffer).count c := by
  have haged : heldBy x c = ((x.queue.map aged).map Held.buffer).count c := by
    rw [List.map_map]; rfl
  have hperm : (((x.queue.map aged).filter fun r => !isStale x.ageLimit r) ++ staleAt x).Perm (x.queue.map aged) :=
    List.perm_append_comm.trans (List.filter_append_perm _ _)
  rw [haged, ← (hperm.map Held.buffer).count_eq c, List.map_append, List.count_append]

theorem owned_ageStream {s : State} (i : StreamId) {reports : Nat → State → State}
    (hr : ∀ n {t}, OwnedBut none t → OwnedBut none (reports n t)) (h : OwnedBut none s) :
    OwnedBut none (ageStream i reports s) := by
  rcases ageStream_cases i reports s with he | ⟨-, n, c, he⟩ <;> rw [he]
  · exact hr 0 h
  · exact ownedBut_of_view (hr n (ownedBut_countStream (ownedBut_freeHeld h (heldBy_ageing (s.stream i))) i c))
      (poolView_withdrawIfEmpty i _)

theorem owned_wrapAct {s : State} (before : State) (k : WrapPlan) (a : WrapAct) (h : OwnedBut none s) :
    OwnedBut none (wrapAct before k a s) := by
  cases a with
  | sync => exact ownedBut_of_view h ((poolView_gateEnds s _).trans (poolView_reportSync _ _))
  | plan =>
    show OwnedBut none (planAct k s)
    rw [planAct_eq]
    exact ownedBut_of_view h rfl
  | close => exact ownedBut_of_view h (poolView_closeWindow s)
  | age i => exact owned_ageStream i (fun n _ ht => reportTimes_keeps (I := OwnedBut none) (fun o hu => ownedBut_report hu o) n _ ht) h
  | notes => exact ownedBut_of_view h rfl
  | grantU =>
    show OwnedBut none (decideU before s)
    rcases decideU_cases before s with ⟨-, he⟩ | ⟨-, he⟩ <;> rw [he]
    · exact owned_arbiterU h
    · exact h
  | ageAmid i n acts grants =>
    exact owned_ageStream i (fun m _ ht =>
      reportAmid_keeps (I := OwnedBut none) (fun o hu => ownedBut_report hu o) (fun hu => ownedBut_of_view hu rfl)
        owned_arbiterU i n before acts grants m ht) h
  | unit => exact h

/-- Nothing that happens in a running part gives a buffer two holders, or a state its holder does not have. -/
theorem poolKept_kept : KeptByBlocks PoolKept where
  quiet hs h := ⟨streamsBounded_kept.quiet hs.1 h, owned_quiet hs.2 h⟩
  event hs h := ⟨streamsBounded_kept.event hs.1 h, owned_event hs.1 hs.2 h⟩
  arbiterU hs := ⟨streamsBounded_kept.arbiterU hs.1, owned_arbiterU hs.2⟩
  arbiterD hs := ⟨streamsBounded_kept.arbiterD hs.1, owned_arbiterD hs.2⟩
  begin k hs := ⟨streamsBounded_kept.begin k hs.1, ownedBut_of_view hs.2 rfl⟩
  act before k a hs := ⟨streamsBounded_kept.act before k a hs.1, owned_wrapAct before k a hs.2⟩
  copy k hs := ⟨streamsBounded_kept.copy k hs.1, ownedBut_of_view hs.2 (by unfold copyPlan; split <;> rfl)⟩
  rewind hs := ⟨streamsBounded_kept.rewind hs.1, ownedBut_of_view hs.2 rfl⟩

theorem poolLaws_iff_of_running {s : State} (hrun : s.power = .running) : PoolLaws s ↔ PoolKept s := by
  constructor
  · rintro ⟨hb, h⟩
    obtain ⟨hpool, hU, hD⟩ := h hrun
    exact ⟨hb, fun c _ => (poolOwned_iff s).1 hpool c, fun c hc => (by cases hc), hU, hD⟩
  · rintro ⟨hb, hown⟩
    exact ⟨hb, fun _ => ⟨(poolOwned_iff s).2 fun c => hown.owned c (by simp), hown.fillsU, hown.fillsD⟩⟩

theorem owned_powerOnValues (straps : NodeAddr) (s : State) : OwnedBut none (powerOnValues straps s) := by
  have hpool : ∀ c : BufId, (powerOnValues straps s).pool[c] = {} := fun c => Vector.getElem_replicate c.isLt
  have hheld : ∀ c, heldCount (powerOnValues straps s) c = 0 := fun c =>
    Finset.sum_eq_zero fun i _ => by
      have he : (powerOnValues straps s).stream i = {} := Vector.getElem_replicate i.isLt
      rw [he]; rfl
  refine ⟨fun c _ => ⟨?_, ?_, ?_, ?_⟩, fun c hc => (by cases hc), fillsInBody_of_none rfl, fillsInBody_of_none rfl⟩ <;>
    rw [hpool]
  · unfold queuedCount; rw [hheld]; rfl
  · rfl
  · rfl
  · exact fun _ => rfl

theorem poolLaws_lift : Lifts PoolKept PoolLaws where
  kept := poolKept_kept.events
  running := poolLaws_iff_of_running
  pending {s} rest hs := by
    refine ⟨hs.1, fun hrun => ?_⟩
    have hkept := (poolLaws_iff_of_running (s := s) hrun).1 hs
    exact ((poolLaws_iff_of_running (s := { s with pending := rest }) hrun).2 ⟨hkept.1, ownedBut_of_view hkept.2 rfl⟩).2 hrun
  begins _ hs := ⟨hs.1, fun hrun => (by cases hrun)⟩
  conditions hp _ hs := ⟨hs.1, fun hrun => absurd (hp.symm.trans hrun) (by decide)⟩
  values straps s := ⟨streamsBounded_powerOnValues straps s, owned_powerOnValues straps s⟩

/-- Settles O59: a buffer's holder gives it up and the next takes it, or it is freed, in one event. -/
theorem poolOwnershipKept : Obligations.PoolOwnershipKept := fun _ _ hs he => poolLaws_lift.step hs he

end Sys2Proof.Invariants
end

section
/-! PROOF. The ordering law of the two plans as an invariant of the running part (R80, R104 to R110, R117). -/

namespace Sys2Proof.Invariants

open Sys2Proof.Machine Sys2Proof.Safety Sys2Proof.Claims Sys2Proof.Link

/-! ### The slot SLOT_ADD carries (R106) -/

/-- A number of `n` bytes is below 256 to the power `n`. -/
theorem natBE_lt (bs : List Byte) : natBE bs < 256 ^ bs.length := by
  have hfold : ∀ (l : List Byte) (acc : Nat),
      l.foldl (fun a b => a * 256 + b.toNat) acc < (acc + 1) * 256 ^ l.length := by
    intro l
    induction l with
    | nil => simp
    | cons b l ih =>
      intro acc
      have hb : b.toNat < 256 := b.isLt
      calc l.foldl (fun a b => a * 256 + b.toNat) (acc * 256 + b.toNat)
          < (acc * 256 + b.toNat + 1) * 256 ^ l.length := ih _
        _ ≤ ((acc + 1) * 256) * 256 ^ l.length := Nat.mul_le_mul_right _ (by omega)
        _ = (acc + 1) * 256 ^ (b :: l).length := by rw [List.length_cons, Nat.pow_succ]; ring
  have h := hfold bs 0
  rwa [Nat.zero_add, Nat.one_mul] at h

theorem arg_two_le (a : List Byte) (i : Nat) : arg a i 2 ≤ 65535 := by
  have hlen : ((a.drop i).take 2).length ≤ 2 := List.length_take_le _ _
  have hlt : arg a i 2 < 256 ^ ((a.drop i).take 2).length := natBE_lt _
  have hpow : 256 ^ ((a.drop i).take 2).length ≤ 256 ^ 2 := Nat.pow_le_pow_right (by decide) hlen
  omega

theorem slotArgs_ranges {a : List Byte} {x : Slot} (h : slotArgs a = some x) : SlotRanges x := by
  unfold slotArgs at h
  split at h
  · split at h
    · rename_i hr
      obtain ⟨hopen, hspan, hquota, hquota', hevery, hphase⟩ := hr
      injection h with h
      subst h
      exact ⟨hopen, hspan, arg_two_le a 4, hquota, hquota', hevery, hphase⟩
    · cases h
  · cases h

/-! ### Edits of a plan (R104, R106 to R109) -/

theorem planOrdered_nil : PlanOrdered [] := ⟨Nat.zero_le _, by simp, List.Pairwise.nil⟩

theorem planOrdered_sublist {l l' : List Slot} (h : PlanOrdered l) (hs : l'.Sublist l) : PlanOrdered l' :=
  ⟨hs.length_le.trans h.length, fun x hx => h.ranges x (hs.subset hx), h.ordered.sublist hs⟩

/-- A slot that does not overlap its predecessor follows every slot below it (R106, check 5). -/
theorem slotsBelow_before {slots : List Slot} {x : Slot} (h : PlanOrdered slots) (hapart : overlaps slots x = false) :
    ∀ y ∈ slotsBelow slots x.openAt, y.openAt + y.span ≤ x.openAt := by
  unfold overlaps at hapart
  rw [Bool.or_eq_false_iff] at hapart
  obtain ⟨hlast, -⟩ := hapart
  have hordered := h.ordered.sublist (List.takeWhile_sublist fun y => decide (y.openAt < x.openAt))
  intro y hy
  cases hl : (slotsBelow slots x.openAt).getLast? with
  | none => rw [List.getLast?_eq_none_iff] at hl; rw [hl] at hy; cases hy
  | some p =>
    rw [hl] at hlast
    have hp : p.openAt + p.span ≤ x.openAt := by simpa using hlast
    obtain ⟨pre, hpre⟩ := List.getLast?_eq_some_iff.1 hl
    change (slotsBelow slots x.openAt).Pairwise _ at hordered
    rw [hpre] at hordered hy
    rcases List.mem_append.1 hy with hm | hm
    · have := (List.pairwise_append.1 hordered).2.2 y hm p (by simp)
      omega
    · obtain rfl : y = p := by simpa using hm
      exact hp

/-- A slot that does not overlap its successor ends before every slot from it on (R106, check 5). -/
theorem slotsFrom_after {slots : List Slot} {x : Slot} (h : PlanOrdered slots) (hapart : overlaps slots x = false) :
    ∀ y ∈ slotsFrom slots x.openAt, x.openAt + x.span ≤ y.openAt := by
  unfold overlaps at hapart
  rw [Bool.or_eq_false_iff] at hapart
  obtain ⟨-, hhead⟩ := hapart
  have hordered := h.ordered.sublist (List.dropWhile_sublist fun y => decide (y.openAt < x.openAt))
  intro y hy
  change (slotsFrom slots x.openAt).Pairwise _ at hordered
  cases hl : slotsFrom slots x.openAt with
  | nil => rw [hl] at hy; cases hy
  | cons n rest =>
    rw [hl] at hhead hordered hy
    have hn : x.openAt + x.span ≤ n.openAt := by simpa using hhead
    rcases List.mem_cons.1 hy with rfl | hm
    · exact hn
    · have := List.rel_of_pairwise_cons hordered hm
      omega

/-- SLOT_ADD places the slot by its OPEN and keeps the ordering law (R106). -/
theorem planOrdered_addSlot {slots : List Slot} {x : Slot} (h : PlanOrdered slots) (hx : SlotRanges x)
    (hroom : slots.length < 64) (hapart : overlaps slots x = false) :
    PlanOrdered (slotsBelow slots x.openAt ++ x :: slotsFrom slots x.openAt) := by
  have hsplit : slotsBelow slots x.openAt ++ slotsFrom slots x.openAt = slots := List.takeWhile_append_dropWhile
  have hlen := congrArg List.length hsplit
  rw [List.length_append] at hlen
  have hordered := h.ordered
  rw [← hsplit] at hordered
  obtain ⟨hbelow, hfrom, hcross⟩ := List.pairwise_append.1 hordered
  refine ⟨?_, fun y hy => ?_, ?_⟩
  · rw [List.length_append, List.length_cons]
    omega
  · rcases List.mem_append.1 hy with hm | hm
    · exact h.ranges y (hsplit ▸ List.mem_append_left _ hm)
    · rcases List.mem_cons.1 hm with rfl | hm
      · exact hx
      · exact h.ranges y (hsplit ▸ List.mem_append_right _ hm)
  · refine List.pairwise_append.2 ⟨hbelow, List.pairwise_cons.2 ⟨slotsFrom_after h hapart, hfrom⟩, fun y hy z hz => ?_⟩
    rcases List.mem_cons.1 hz with rfl | hm
    · exact slotsBelow_before h hapart y hy
    · exact hcross y hy z hm

/-! ### The two plans -/

/-- All that the ordering law of the plans depends on. -/
def planView (s : State) := (s.plan.staged, s.plan.active.map ActiveSlot.slot, s.plan.stagedL, s.plan.activeL)

theorem plansOrdered_of_view {s t : State} (h : PlansOrdered s) (hv : planView t = planView s) : PlansOrdered t := by
  simp only [planView, Prod.mk.injEq] at hv
  obtain ⟨hstaged, hactive, hstagedL, hactiveL⟩ := hv
  obtain ⟨staged, active, stagedL, activeL⟩ := h
  rw [← hstaged] at staged
  rw [← hactive] at active
  rw [← hstagedL] at stagedL
  rw [← hactiveL] at activeL
  exact ⟨staged, active, stagedL, activeL⟩

theorem planView_setPort (p : Port) (x : PortState) (s : State) : planView (s.setPort p x) = planView s := by
  cases p <;> rfl

theorem planView_report (o : Occurrence) (s : State) : planView (report o s) = planView s := by
  rw [report_eq]; rfl

/-- A SPENT mark changes no slot (R80). -/
theorem map_slot_spent (l : List ActiveSlot) (pos : Nat) :
    (l.modify pos fun a => { a with spent := true }).map ActiveSlot.slot = l.map ActiveSlot.slot := by
  refine List.ext_getElem? fun n => ?_
  rw [List.getElem?_map, List.getElem?_map, List.getElem?_modify]
  cases l[n]? with
  | none => rfl
  | some a => by_cases hn : pos = n <;> simp [hn]

theorem planView_endWindow (s : State) : planView (endWindow s) = planView s := by
  rcases endWindow_eq s with ⟨-, he⟩ | ⟨w, -, he⟩ <;> rw [he]
  unfold planView
  cases w.once with
  | false => rfl
  | true =>
    show (s.plan.staged, (s.plan.active.modify w.position _).map ActiveSlot.slot, s.plan.stagedL, s.plan.activeL) = _
    rw [map_slot_spent]

theorem planView_gateEnds (before after : State) : planView (gateEnds before after) = planView after := by
  rcases gateEnds_cases before after with ⟨-, -, he⟩ | ⟨-, he⟩ <;> rw [he]
  exact planView_endWindow after

theorem planView_closeWindow (s : State) : planView (closeWindow s) = planView s := by
  refine (planView_endWindow _).trans ?_
  rw [missedCheck_eq]
  rfl

theorem planView_takeSlot (s : State) : planView (takeSlot s) = planView s := by
  have hopen : ∀ (t : State) (n : Nat) (x : Slot), planView (openWindow n x t) = planView t := by
    intro t n x
    unfold openWindow
    dsimp only
    rw [raiseRequest_eq]
    rfl
  unfold takeSlot
  split
  · dsimp only
    split
    · split
      · exact hopen _ _ _
      · rfl
    · rfl
  · rfl

theorem planView_lines (v) : KeptOnLines fun s => planView s = v where
  port _ _ hs := (planView_setPort _ _ _).trans hs
  report _ hs := (planView_report _ _).trans hs
  buffers _ _ _ hs := hs
  counters _ hs := hs
  pass _ hs := by unfold passAppend; split <;> exact hs
  back _ hs := by unfold backAppend; split <;> exact hs
  admission _ _ hs := by rw [admitFrame_eq]; exact hs
  mark hs := by rw [deliverMark_frame]; exact hs
  offer hs := by rw [offerRequest_frame]; exact hs

theorem plansOrdered_setStaged {s : State} (h : PlansOrdered s) {slots : List Slot} {l : Nat} (hslots : PlanOrdered slots)
    (hl : 2500 ≤ l ∧ l ≤ 2000000) : PlansOrdered (setStaged slots l s) :=
  ⟨hslots, h.active, hl, h.activeL⟩

theorem plansOrdered_effect {s t : State} (h : PlansOrdered s) (he : Effect s t) : PlansOrdered t := by
  cases he with
  | addSlot hargs _ hroom _ hapart =>
    exact plansOrdered_setStaged h (planOrdered_addSlot h.staged (slotArgs_ranges hargs) hroom hapart) h.stagedL
  | dropSlot => exact plansOrdered_setStaged h (planOrdered_sublist h.staged (List.eraseIdx_sublist _ _)) h.stagedL
  | emptyStaged => exact plansOrdered_setStaged h planOrdered_nil h.stagedL
  | stageActive => exact plansOrdered_setStaged h h.active h.activeL
  | stageLength _ hlow hhigh => exact plansOrdered_setStaged h h.staged ⟨hlow, hhigh⟩
  | deleteStream =>
    refine plansOrdered_of_view h ?_
    unfold deleteStream
    dsimp only
    rw [detach_eq, purgeQueue_eq]
    rfl
  | purge => exact plansOrdered_of_view h (by rw [purgeQueue_eq]; rfl)
  | hold limit => exact plansOrdered_of_view h (planView_gateEnds s _)
  | configureSync =>
    refine plansOrdered_of_view h ((planView_gateEnds s _).trans ?_)
    rw [reportSync_eq]
    rfl
  | zero g =>
    cases g with
    | port p => exact plansOrdered_of_view h (planView_setPort p _ s)
    | _ => exact plansOrdered_of_view h rfl
  | _ => exact plansOrdered_of_view h rfl

theorem plansOrdered_initial {s : State} (h : s.plan = {}) : PlansOrdered s := by
  have hl : 2500 ≤ Config.defaultL ∧ Config.defaultL ≤ 2000000 := by decide
  constructor
  · rw [h]; exact planOrdered_nil
  · rw [h]; exact planOrdered_nil
  · rw [h]; exact hl
  · rw [h]; exact hl

theorem plansOrdered_event {s t : State} (h : PlansOrdered s) (he : Event s t) : PlansOrdered t := by
  cases he with
  | header p b => exact plansOrdered_of_view h ((planView_lines _).header p b rfl)
  | frameEnd p b => exact plansOrdered_of_view h ((planView_lines _).frameEnd p b rfl)
  | link p l => exact plansOrdered_of_view h ((planView_lines _).link p l rfl)
  | completeD =>
    rename_i t _
    refine plansOrdered_of_view h ?_
    rw [completeD_eq]
    cases t.source <;> rfl
  | completeU =>
    rename_i t _
    rcases completeU_cases t s with ⟨x, -, he⟩ | ⟨-, he | he | ⟨-, he⟩⟩ | ⟨-, he⟩ <;> rw [he]
    · exact plansOrdered_of_view h rfl
    · exact plansOrdered_of_view h rfl
    · exact plansOrdered_initial rfl
    · exact plansOrdered_of_view h rfl
    · exact plansOrdered_of_view h rfl
  | engine =>
    exact engineEvent_keeps (I := PlansOrdered) (fun hs => plansOrdered_of_view hs (planView_closeWindow _))
      (fun hs => plansOrdered_of_view hs (planView_takeSlot _)) h
  | request _ ht =>
    exact answered_keeps (I := PlansOrdered) plansOrdered_effect (fun _ hs => plansOrdered_of_view hs rfl)
      (fun o hs => plansOrdered_of_view hs (planView_report o _)) h ht

theorem planView_planAct (k : WrapPlan) (s : State) : planView (planAct k s) = planView s := by
  have hcount : ∀ p : Plan, (countGuard (countHold p)).staged = p.staged ∧ (countGuard (countHold p)).active = p.active ∧
      (countGuard (countHold p)).stagedL = p.stagedL ∧ (countGuard (countHold p)).activeL = p.activeL := by
    intro p
    unfold countHold
    split <;> exact ⟨rfl, rfl, rfl, rfl⟩
  obtain ⟨hstaged, hactive, hstagedL, hactiveL⟩ := hcount s.plan
  have hview : planView { s with plan := countGuard (countHold s.plan) } = planView s := by
    show (_, List.map _ _, _, _) = _
    rw [hstaged, hactive, hstagedL, hactiveL]
    rfl
  unfold planAct
  split
  · exact planView_report _ _
  · dsimp only
    split
    · exact (planView_report _ _).trans hview
    · exact hview

theorem planView_ageStream (i : StreamId) {reports : Nat → State → State}
    (h : ∀ n s, planView (reports n s) = planView s) (s : State) : planView (ageStream i reports s) = planView s := by
  rcases ageStream_cases i reports s with he | ⟨-, n, c, he⟩ <;> rw [he]
  · exact h 0 s
  · rw [withdrawIfEmpty_eq]
    refine (h _ _).trans ?_
    rw [freeBufs_eq]
    rfl

theorem planView_wrapAct (before : State) (k : WrapPlan) (a : WrapAct) (s : State) :
    planView (wrapAct before k a s) = planView s := by
  cases a with
  | sync =>
    refine (planView_gateEnds s _).trans ?_
    rw [reportSync_eq]
    rfl
  | plan => exact planView_planAct k s
  | close => exact planView_closeWindow s
  | age i => exact planView_ageStream i (fun n t => by rw [reportTimes_eq]; rfl) s
  | notes => rfl
  | grantU =>
    show planView (decideU before s) = _
    rcases decideU_cases before s with ⟨-, he⟩ | ⟨-, he⟩ <;> rw [he]
    rw [arbiterU_eq]
    rfl
  | ageAmid i k acts grants =>
    refine planView_ageStream i (fun n t => ?_) s
    exact reportAmid_keeps (I := fun u => planView u = planView t) (fun o hu => (planView_report o _).trans hu)
      (fun hu => hu) (fun hu => by rw [arbiterU_eq]; exact hu) i k before acts grants n rfl
  | unit => rfl

/-- The staged plan that a switch copies is ordered as the active one was (R117). -/
theorem plansOrdered_copyPlan {s : State} (k : WrapPlan) (h : PlansOrdered s) : PlansOrdered (copyPlan k s) := by
  unfold copyPlan
  split
  · refine ⟨h.staged, ?_, h.stagedL, h.stagedL⟩
    show PlanOrdered ((s.plan.staged.map fun x => ({ slot := x } : ActiveSlot)).map ActiveSlot.slot)
    rw [List.map_map]
    exact (List.map_id s.plan.staged).symm ▸ h.staged
  · exact h

/-- Nothing that happens in a running part breaks the order of a plan. -/
theorem plansOrdered_kept : KeptByBlocks PlansOrdered where
  quiet hs h := by
    cases h with
    | byte p b => exact plansOrdered_of_view hs ((planView_lines _).byte p b rfl)
    | _ => exact plansOrdered_of_view hs rfl
  event hs h := plansOrdered_event hs h
  arbiterU hs := plansOrdered_of_view hs (by rw [arbiterU_eq]; rfl)
  arbiterD hs := plansOrdered_of_view hs (by rw [arbiterD_eq]; rfl)
  begin _ hs := plansOrdered_of_view hs rfl
  act before k a hs := plansOrdered_of_view hs (planView_wrapAct before k a _)
  copy k hs := plansOrdered_copyPlan k hs
  rewind hs := plansOrdered_of_view hs rfl

end Sys2Proof.Invariants
end

section
/-! PROOF. The laws of the window record, the request, the gate and WIN as invariants of the running part (R82, R83,
R86 to R92, R96, R98). -/

namespace Sys2Proof.Invariants

open Sys2Proof.Machine Sys2Proof.Safety Sys2Proof.Claims Sys2Proof.Link

/-! ### The laws, and the moment between a change of a queue and the report that it is empty -/

/-- A request stands only in OPEN with no release of the window on the line, and on a queue that is not empty unless it
is the queue of entry `i`. -/
def RequestJustifiedBut (i : StreamId) (s : State) : Prop :=
  s.engine.request = true → ∃ w, s.engine.window = some w ∧ w.phase = .opened ∧ w.onLine = false ∧
    (w.stream ≠ i → (s.stream w.stream).queue ≠ [])

/-- The laws of the window record, the request, the gate and WIN in a running part. -/
structure WindowFit (s : State) : Prop where
  quota : WindowQuota s
  request : RequestJustified s
  gate : GateShutNoWindow s
  win : s.win = s.engine.window.isSome

/-- The laws while the queue of entry `i` has changed and no report of it has been made (R42, R91). -/
structure WindowFitBut (i : StreamId) (s : State) : Prop where
  quota : WindowQuota s
  request : RequestJustifiedBut i s
  gate : GateShutNoWindow s
  win : s.win = s.engine.window.isSome

/-- No window stands, no request, and WIN is low. -/
structure WindowShut (s : State) : Prop where
  window : s.engine.window = none
  request : s.engine.request = false
  win : s.win = false

theorem WindowShut.fit {s : State} (h : WindowShut s) : WindowFit s where
  quota w hw := by rw [h.window] at hw; cases hw
  request hr := by rw [h.request] at hr; cases hr
  gate _ := h.window
  win := by rw [h.win, h.window]; rfl

/-- All that the laws depend on. -/
def windowView (s : State) :=
  (s.engine.window, s.engine.request, s.win, gateOpen s, fun i : StreamId => (s.stream i).queue)

/-- The laws hold where the gate may have opened and nothing else they depend on has changed. -/
theorem windowFit_of_opened {s t : State} (h : WindowFit s) (hwindow : t.engine.window = s.engine.window)
    (hrequest : t.engine.request = s.engine.request) (hwin : t.win = s.win)
    (hgate : gateOpen t = false → gateOpen s = false) (hqueue : ∀ i, (t.stream i).queue = (s.stream i).queue) :
    WindowFit t where
  quota w hw := h.quota w (hwindow ▸ hw)
  request hr := by
    obtain ⟨w, hw, hopened, hline, hq⟩ := h.request (hrequest ▸ hr)
    exact ⟨w, hwindow.trans hw, hopened, hline, by rw [hqueue]; exact hq⟩
  gate hg := hwindow.trans (h.gate (hgate hg))
  win := by rw [hwin, hwindow]; exact h.win

theorem windowFit_of_view {s t : State} (h : WindowFit s) (hv : windowView t = windowView s) : WindowFit t := by
  simp only [windowView, Prod.mk.injEq] at hv
  obtain ⟨hwindow, hrequest, hwin, hgate, hqueue⟩ := hv
  exact windowFit_of_opened h hwindow hrequest hwin (fun hg => hgate ▸ hg) (congrFun hqueue)

theorem windowFitBut_of_view {i : StreamId} {s t : State} (h : WindowFitBut i s) (hv : windowView t = windowView s) :
    WindowFitBut i t := by
  simp only [windowView, Prod.mk.injEq] at hv
  obtain ⟨hwindow, hrequest, hwin, hgate, hqueue⟩ := hv
  refine ⟨fun w hw => h.quota w (hwindow ▸ hw), fun hr => ?_, fun hg => hwindow.trans (h.gate (hgate ▸ hg)), ?_⟩
  · obtain ⟨w, hw, hopened, hline, hq⟩ := h.request (hrequest ▸ hr)
    exact ⟨w, hwindow.trans hw, hopened, hline, fun hne => by rw [congrFun hqueue]; exact hq hne⟩
  · rw [hwin, hwindow]; exact h.win

/-- A change of one entry's queue. -/
theorem windowFit_setStream {s : State} (h : WindowFit s) (i : StreamId) (x : Stream) :
    WindowFitBut i (setStream i x s) where
  quota := h.quota
  request hr := by
    obtain ⟨w, hw, hopened, hline, hq⟩ := h.request hr
    refine ⟨w, hw, hopened, hline, fun hne => ?_⟩
    rw [setStream_stream, if_neg hne.symm]
    exact hq
  gate := h.gate
  win := h.win

/-- A queue that is not empty justifies the request that stood. -/
theorem windowFit_of_nonempty {i : StreamId} {s : State} (h : WindowFitBut i s) (hq : (s.stream i).queue ≠ []) :
    WindowFit s where
  quota := h.quota
  request hr := by
    obtain ⟨w, hw, hopened, hline, hother⟩ := h.request hr
    refine ⟨w, hw, hopened, hline, ?_⟩
    by_cases hi : w.stream = i
    · rw [hi]; exact hq
    · exact hother hi
  gate := h.gate
  win := h.win

/-! ### Requests raised and withdrawn (R42, R88, R91) -/

/-- A request raised is justified: R88 asks for all that it needs. -/
theorem windowFit_raiseRequest {s : State} (h : WindowFit s) : WindowFit (raiseRequest s) := by
  unfold raiseRequest
  split
  · rename_i hw
    unfold requestWanted at hw
    split at hw
    · rename_i w hwin
      simp only [Bool.and_eq_true, Bool.not_eq_true', beq_iff_eq, windowHasFrames, List.isEmpty_eq_false_iff] at hw
      obtain ⟨⟨⟨hopened, hq⟩, -⟩, hline⟩ := hw
      exact ⟨h.quota, fun _ => ⟨w, hwin, hopened, hline, hq⟩, h.gate, h.win⟩
    · cases hw
  · exact h

theorem windowFit_raiseFor {s : State} (i : StreamId) (h : WindowFit s) : WindowFit (raiseFor i s) := by
  unfold raiseFor
  split
  · split
    · exact windowFit_raiseRequest h
    · exact h
  · exact h

/-- The report that a queue is empty leaves no request on it (R42, R91). -/
theorem windowFit_withdrawIfEmpty {i : StreamId} {s : State} (h : WindowFitBut i s) : WindowFit (withdrawIfEmpty i s) := by
  unfold withdrawIfEmpty
  split
  · rename_i w hw
    split
    · exact ⟨h.quota, fun hr => (by cases hr), h.gate, h.win⟩
    · rename_i hne
      refine ⟨h.quota, fun hr => ?_, h.gate, h.win⟩
      obtain ⟨w', hw', hopened, hline, hother⟩ := h.request hr
      obtain rfl : w = w' := Option.some.inj (hw.symm.trans hw')
      refine ⟨w, hw, hopened, hline, ?_⟩
      by_cases hi : w.stream = i
      · exact fun hq => hne ⟨hi, hi ▸ hq⟩
      · exact hother hi
  · rename_i hw
    refine ⟨h.quota, fun hr => ?_, h.gate, h.win⟩
    obtain ⟨w', hw', -⟩ := h.request hr
    rw [hw] at hw'
    cases hw'

/-! ### Windows closed, ended and opened (R85 to R87, R92, R96) -/

theorem windowShut_endWindow {s : State} (hwin : s.win = s.engine.window.isSome)
    (hrequest : s.engine.request = true → s.engine.window ≠ none) : WindowShut (endWindow s) := by
  rcases endWindow_eq s with ⟨hw, he⟩ | ⟨w, -, he⟩ <;> rw [he]
  · rw [hw] at hwin hrequest
    exact ⟨hw, by simpa using hrequest, hwin⟩
  · exact ⟨rfl, rfl, rfl⟩

theorem WindowFit.request_window {s : State} (h : WindowFit s) (hr : s.engine.request = true) :
    s.engine.window ≠ none := by
  obtain ⟨w, hw, -⟩ := h.request hr
  rw [hw]
  simp

/-- Where the gate shuts, a standing window ends at once; where it opens or stays, nothing changes (R96). -/
theorem windowFit_gateEnds {before after : State} (h : WindowFit before)
    (hwindow : after.engine.window = before.engine.window) (hrequest : after.engine.request = before.engine.request)
    (hwin : after.win = before.win) (hqueue : ∀ i, (after.stream i).queue = (before.stream i).queue) :
    WindowFit (gateEnds before after) := by
  rcases gateEnds_cases before after with ⟨-, -, he⟩ | ⟨hgate, he⟩ <;> rw [he]
  · refine (windowShut_endWindow (by rw [hwin, hwindow]; exact h.win) ?_).fit
    rw [hwindow, hrequest]
    exact h.request_window
  · refine windowFit_of_opened h hwindow hrequest hwin (fun hg => ?_) hqueue
    rcases hgate with hb | ha
    · exact hb
    · rw [hg] at ha; cases ha

theorem windowView_report (o : Occurrence) (s : State) : windowView (report o s) = windowView s := by
  rw [report_eq]; rfl

/-- A change of an entry that leaves its queue. -/
theorem windowView_setStream (s : State) {i : StreamId} {x : Stream} (h : x.queue = (s.stream i).queue) :
    windowView (setStream i x s) = windowView s := by
  have hqueues : (fun j => ((setStream i x s).stream j).queue) = fun j => (s.stream j).queue := by
    funext j
    rw [setStream_stream]
    split
    · rename_i hj; rw [← hj, h]
    · rfl
  unfold windowView
  rw [hqueues]
  rfl

theorem windowView_countStream (i : StreamId) (f : StreamCounters → StreamCounters) (s : State) :
    windowView (countStream i f s) = windowView s := windowView_setStream s rfl

theorem windowView_setPort (p : Port) (x : PortState) (s : State) : windowView (s.setPort p x) = windowView s := by
  cases p <;> rfl

theorem windowView_missedCheck (s : State) : windowView (missedCheck s) = windowView s := by
  unfold missedCheck
  split
  · split
    · exact (windowView_report _ _).trans (windowView_countStream _ _ s)
    · rfl
  · rfl

theorem windowFit_closeWindow {s : State} (h : WindowFit s) : WindowFit (closeWindow s) := by
  have hmissed := windowFit_of_view h (windowView_missedCheck s)
  exact (windowShut_endWindow hmissed.win hmissed.request_window).fit

theorem windowFit_openWindow {s : State} (hgate : gateOpen s = true) (pos : Nat) {x : Slot} (hx : 1 ≤ x.quota) :
    WindowFit (openWindow pos x s) := by
  refine windowFit_raiseRequest ⟨fun w hw => ?_, fun hr => (by cases hr), fun hg => ?_, rfl⟩
  · obtain rfl := Option.some.inj hw
    exact ⟨hx, fun _ => hx, fun hd => (by cases hd)⟩
  · exact absurd (hgate.symm.trans hg) (by decide)

theorem windowFit_takeSlot {s : State} (hp : PlansOrdered s) (h : WindowFit s) : WindowFit (takeSlot s) := by
  unfold takeSlot
  split
  · rename_i a ha
    have hmem : a.slot ∈ s.plan.active.map ActiveSlot.slot := List.mem_map_of_mem (List.mem_of_getElem? ha)
    have hnext : WindowFit { s with engine := { s.engine with nextSlot := s.engine.nextSlot + 1 } } :=
      windowFit_of_view h rfl
    dsimp only
    split
    · split
      · rename_i hopen
        exact windowFit_openWindow (Bool.and_eq_true_iff.1 hopen).1 _ (hp.active.ranges _ hmem).quotaLow
      · exact windowFit_of_view hnext rfl
    · exact hnext
  · exact h

/-! ### Frames held and released (R38 to R43, R89, R90) -/

theorem windowFit_admitRecord {i : StreamId} {s : State} (b : BufId) (h : WindowFitBut i s) :
    WindowFit (admitRecord i b s) := by
  have hself : (admitRecord i b s).stream i = _ := setQueue_stream_self i _ _
  have hother : ∀ j, j ≠ i → (admitRecord i b s).stream j = s.stream j := fun j hj => by
    show (setStream i _ (markBuf b .queued s)).stream j = _
    rw [setStream_stream, if_neg hj.symm]
    rfl
  have hbut : WindowFitBut i (admitRecord i b s) := by
    refine ⟨h.quota, fun hr => ?_, h.gate, h.win⟩
    obtain ⟨w, hw, hopened, hline, hq⟩ := h.request hr
    exact ⟨w, hw, hopened, hline, fun hne => by rw [hother _ hne]; exact hq hne⟩
  exact windowFit_of_nonempty hbut (by rw [hself]; simp)

theorem windowFitBut_self {s : State} (i : StreamId) (h : WindowFit s) : WindowFitBut i s := by
  refine ⟨h.quota, fun hr => ?_, h.gate, h.win⟩
  obtain ⟨w, hw, hopened, hline, hq⟩ := h.request hr
  exact ⟨w, hw, hopened, hline, fun _ => hq⟩

theorem windowFit_supersedeHead {s : State} (i : StreamId) (h : WindowFit s) : WindowFitBut i (supersedeHead i s) := by
  unfold supersedeHead
  split
  · rename_i r q _
    have hset : WindowFitBut i (setQueue i q (freeBuf r.buffer s)) :=
      windowFit_setStream (windowFit_of_view (t := freeBuf r.buffer s) h rfl) i _
    exact windowFitBut_of_view hset ((windowView_report _ _).trans (windowView_countStream _ _ _))
  · exact windowFitBut_self i h

theorem windowFit_admitFrame {s : State} (i : StreamId) (b : BufId) (h : WindowFit s) : WindowFit (admitFrame i b s) := by
  have hcount := windowFit_of_view h (windowView_countStream i (fun c => { c with arrived := c.arrived + 1 }) s)
  unfold admitFrame
  extract_lets u
  split
  · exact windowFit_raiseFor i (windowFit_admitRecord b (windowFitBut_self i hcount))
  · split
    · exact windowFit_raiseFor i (windowFit_admitRecord b (windowFit_supersedeHead i hcount))
    · exact windowFit_of_view hcount ((windowView_report _ _).trans (windowView_countStream _ _ (freeBuf b u)))

theorem windowFit_lines : KeptOnLines WindowFit where
  port p x hs := windowFit_of_view hs (windowView_setPort p x _)
  report o hs := windowFit_of_view hs (windowView_report o _)
  buffers _ _ _ hs := windowFit_of_view hs rfl
  counters _ hs := windowFit_of_view hs rfl
  pass _ hs := windowFit_of_view hs (by unfold passAppend; split <;> rfl)
  back _ hs := windowFit_of_view hs (by unfold backAppend; split <;> rfl)
  admission b _ hs := windowFit_admitFrame _ b hs
  mark hs := windowFit_of_view hs (by rw [deliverMark_frame]; rfl)
  offer hs := windowFit_of_view hs (by rw [offerRequest_frame]; rfl)

theorem windowFit_purgeQueue {s : State} (i : StreamId) (h : WindowFit s) : WindowFit (purgeQueue i s) := by
  have hfreed := windowFit_of_view (t := freeBufs ((s.stream i).queue.map Held.buffer) s) h (by rw [freeBufs_eq]; rfl)
  exact windowFit_withdrawIfEmpty
    (windowFitBut_of_view (windowFit_setStream hfreed i _) (windowView_countStream i _ _))

/-- A release that completes is no longer on the line, and the engine tests for a request (R90). -/
theorem windowFit_releaseCompleted {s : State} (h : WindowFit s) (b : BufId) (attached : Option StreamId) :
    WindowFit (releaseCompleted b attached s) := by
  have hfreed : WindowFit (freeBuf b s) := windowFit_of_view h rfl
  unfold releaseCompleted
  extract_lets u v
  have hv : WindowFit v := by
    cases attached with
    | none => exact hfreed
    | some i => exact windowFit_of_view hfreed (windowView_countStream i _ _)
  refine windowFit_raiseRequest ⟨fun w hw => ?_, fun hr => ?_, fun hg => ?_, ?_⟩
  · obtain ⟨w', hw', rfl⟩ := Option.map_eq_some_iff.1 hw
    exact hv.quota w' hw'
  · obtain ⟨w, hw, hopened, -, hq⟩ := hv.request hr
    exact ⟨{ w with onLine := false }, by show v.engine.window.map _ = _; rw [hw]; rfl, hopened, rfl, hq⟩
  · show v.engine.window.map _ = none
    rw [hv.gate hg]
    rfl
  · show v.win = (v.engine.window.map _).isSome
    rw [Option.isSome_map]
    exact hv.win

/-- A grant raises RELEASED towards QUOTA and takes the request (R89). -/
theorem windowFit_grantRelease {s : State} (h : WindowFit s) {w : Window} (r : Held) (q : List Held)
    (hr : s.engine.request = true) (hw : s.engine.window = some w) : WindowFit (grantRelease w r q s) := by
  obtain ⟨w', hw', hopened, -, -⟩ := h.request hr
  obtain rfl : w = w' := Option.some.inj (hw.symm.trans hw')
  obtain ⟨hlow, hbelow, -⟩ := h.quota w hw
  have hlt := hbelow hopened
  rw [grantRelease_eq]
  refine ⟨fun v hv => ?_, fun hr' => (by cases hr'), fun hg => ?_, ?_⟩
  · obtain rfl : windowGranted w = v := Option.some.inj hv
    refine ⟨hlow, fun hp => ?_, fun hp => ?_⟩
    · show w.released + 1 < w.quota
      by_contra hfull
      have hdone : (windowGranted w).phase = .done := if_pos (Nat.le_of_not_lt hfull)
      rw [hdone] at hp
      cases hp
    · show w.released + 1 = w.quota
      by_contra hne
      have hphase : (windowGranted w).phase = w.phase := if_neg (by omega)
      rw [hphase, hopened] at hp
      cases hp
  · exact absurd ((h.gate hg).symm.trans hw) (by simp)
  · show s.win = true
    rw [h.win, hw]
    rfl

theorem windowFit_arbiterU {s : State} (h : WindowFit s) : WindowFit (arbiterU s) :=
  windowFit_of_view h (by rw [arbiterU_eq]; rfl)

theorem windowFit_arbiterD {s : State} (h : WindowFit s) : WindowFit (arbiterD s) := by
  rcases arbiterD_cases s with he | ⟨-, ⟨m, he⟩ | ⟨w, r, q, hr, hw, -, he⟩ | ⟨b, q, -, he⟩⟩ <;> rw [he]
  · exact h
  · exact windowFit_of_view h rfl
  · exact windowFit_grantRelease h r q hr hw
  · exact windowFit_of_view h (by rw [grantPass_eq]; rfl)

/-! ### Requests (R46 to R52, R76, R113 to R122) -/

theorem holds_withSwitch (m : PlanMode) (b : Bool) : (m.withSwitch b).holds = m.holds := by
  cases m <;> cases b <;> rfl

theorem holds_withHold (m : PlanMode) (b : Bool) : (m.withHold b).holds = b := by cases m <;> cases b <;> rfl

/-- A change of plan control that begins no hold does not shut the gate (R82). -/
theorem windowFit_of_holds {s t : State} (h : WindowFit s) (hwindow : t.engine.window = s.engine.window)
    (hrequest : t.engine.request = s.engine.request) (hwin : t.win = s.win) (hsync : t.sync = s.sync)
    (hqueue : ∀ i, (t.stream i).queue = (s.stream i).queue)
    (hmode : t.plan.mode.holds = true → s.plan.mode.holds = true) : WindowFit t := by
  refine windowFit_of_opened h hwindow hrequest hwin (fun hg => ?_) hqueue
  unfold gateOpen at hg ⊢
  rw [hsync] at hg
  cases ht : t.plan.mode.holds with
  | true => rw [hmode ht]; rfl
  | false =>
    rw [ht, Bool.not_false, Bool.true_and] at hg
    rw [hg, Bool.and_false]

theorem windowFit_deleteStream {s : State} (i : StreamId) (h : WindowFit s) : WindowFit (deleteStream i s) := by
  have hset : WindowFit (setStream i { (purgeQueue i s).stream i with valid := false, counters := {} } (purgeQueue i s)) :=
    windowFit_of_view (windowFit_purgeQueue i h) (windowView_setStream _ rfl)
  refine windowFit_of_view hset ?_
  show windowView (detach i _) = _
  rw [detach_eq]
  rfl

theorem windowFit_effect {s t : State} (hb : StreamsBounded s) (h : WindowFit s) (he : Effect s t) : WindowFit t := by
  cases he with
  | writeStream => exact windowFit_of_view h (windowView_setStream s (writtenStream_queue (hb _) _))
  | deleteStream =>
    exact windowFit_deleteStream _ h
  | lockStream => exact windowFit_of_view h (windowView_setStream s rfl)
  | purge => exact windowFit_purgeQueue _ h
  | switch _ hsteady =>
    refine windowFit_of_holds h rfl rfl rfl rfl (fun _ => rfl) fun hp => (by cases hp)
  | withdraw => exact windowFit_of_holds h rfl rfl rfl rfl (fun _ => rfl) (holds_withSwitch _ _).symm.trans
  | hold limit => exact windowFit_gateEnds h rfl rfl rfl fun _ => rfl
  | resume =>
    exact windowFit_of_holds h rfl rfl rfl rfl (fun _ => rfl) fun hr => absurd ((holds_withHold _ _).symm.trans hr) (by decide)
  | configureSync =>
    rw [reportSync_eq]
    exact windowFit_gateEnds h rfl rfl rfl fun _ => rfl
  | zero g =>
    cases g with
    | port p => exact windowFit_of_view h (windowView_setPort p _ s)
    | stream i => exact windowFit_of_view h (windowView_countStream i (fun _ => {}) s)
    | _ => exact windowFit_of_view h rfl
  | _ => exact windowFit_of_view h rfl

/-! ### The invariant -/

/-- The plans are ordered, the stream entries bounded, and the laws of the window hold. -/
structure WindowKept (s : State) : Prop where
  plans : PlansOrdered s
  streams : StreamsBounded s
  fit : WindowFit s

theorem windowKept_answered {f : FrameBytes} {s t : State} (h : WindowKept s) (ht : Answered f (takeHead s) t) :
    WindowKept t :=
  answered_keeps (I := WindowKept)
    (fun hs he => ⟨plansOrdered_effect hs.plans he, streamsBounded_effect hs.streams he,
      windowFit_effect hs.streams hs.fit he⟩)
    (fun _ hs => ⟨plansOrdered_of_view hs.plans rfl, hs.streams, windowFit_of_view hs.fit rfl⟩)
    (fun o hs => ⟨plansOrdered_of_view hs.plans (planView_report o _), streamsBounded_report o hs.streams,
      windowFit_of_view hs.fit (windowView_report o _)⟩) h ht

theorem windowKept_engineEvent {s : State} (h : WindowKept s) : WindowKept (engineEvent s) :=
  engineEvent_keeps (I := WindowKept)
    (fun hs => ⟨plansOrdered_of_view hs.plans (planView_closeWindow _), streamsBounded_closeWindow hs.streams,
      windowFit_closeWindow hs.fit⟩)
    (fun hs => ⟨plansOrdered_of_view hs.plans (planView_takeSlot _),
      streamsBounded_of_streams hs.streams (by rw [takeSlot_eq]), windowFit_takeSlot hs.plans hs.fit⟩) h

theorem windowFit_completeD {s : State} (h : WindowFit s) (t : Transmission SourceD) : WindowFit (completeD t s) := by
  have hidle : WindowFit (idledD s) := windowFit_of_view h rfl
  rw [completeD_eq_tellD]
  cases t.source with
  | mark => exact windowFit_of_view hidle rfl
  | release b attached => exact windowFit_releaseCompleted hidle b attached
  | pass b => exact windowFit_of_view hidle rfl

theorem windowFit_completeU {s : State} (h : WindowFit s) (t : Transmission SourceU) : WindowFit (completeU t s) := by
  rcases completeU_cases t s with ⟨x, -, he⟩ | ⟨-, he | he | ⟨-, he⟩⟩ | ⟨-, he⟩ <;> rw [he]
  · exact windowFit_of_view h rfl
  · exact windowFit_of_view h rfl
  · exact WindowShut.fit ⟨rfl, rfl, rfl⟩
  · exact windowFit_of_view h rfl
  · exact windowFit_of_view h rfl

theorem windowFit_event {s t : State} (h : WindowKept s) (he : Event s t) : WindowFit t := by
  cases he with
  | header p b => exact windowFit_lines.header p b h.fit
  | frameEnd p b => exact windowFit_lines.frameEnd p b h.fit
  | link p l => exact windowFit_lines.link p l h.fit
  | completeD => exact windowFit_completeD h.fit _
  | completeU => exact windowFit_completeU h.fit _
  | engine => exact (windowKept_engineEvent h).fit
  | request _ ht => exact (windowKept_answered h ht).fit

theorem windowFit_expireHold {s : State} (h : WindowFit s) : WindowFit (expireHold s) := by
  unfold expireHold
  extract_lets _ plan _ u
  have hu : WindowFit u := windowFit_of_holds h rfl rfl rfl rfl (fun _ => rfl) fun hp =>
    absurd ((holds_withHold s.plan.mode false).symm.trans hp) Bool.false_ne_true
  exact windowFit_of_view hu (windowView_report _ _)

theorem windowFit_takeSwitch {s : State} (k : WrapPlan) (h : WindowFit s) : WindowFit (takeSwitch k s) := by
  unfold takeSwitch
  extract_lets p u
  have hu : WindowFit u := windowFit_of_holds h rfl rfl rfl rfl (fun _ => rfl) fun hp => (by cases hp)
  exact windowFit_of_view hu (windowView_report _ _)

theorem windowFit_planAct {s : State} (k : WrapPlan) (h : WindowFit s) : WindowFit (planAct k s) := by
  have hmode : (countGuard (countHold s.plan)).mode = s.plan.mode := by
    unfold countHold
    split <;> rfl
  unfold planAct
  split
  · exact windowFit_expireHold h
  · extract_lets u
    have hu : WindowFit u :=
      windowFit_of_holds h rfl rfl rfl rfl (fun _ => rfl) (congrArg PlanMode.holds hmode).symm.trans
    split
    · exact windowFit_takeSwitch k hu
    · exact hu

/-- Whatever falls amid the reports of an ageing, the queue's change is reported after it (R42, R44, R91). -/
theorem windowFit_ageStream {s : State} (i : StreamId) {reports : Nat → State → State}
    (hr : ∀ n t, windowView (reports n t) = windowView t) (h : WindowFit s) : WindowFit (ageStream i reports s) := by
  rcases ageStream_cases i reports s with he | ⟨-, n, c, he⟩ <;> rw [he]
  · exact windowFit_of_view h (hr 0 s)
  · have hqueue := windowFit_setStream h i
      { s.stream i with queue := ((s.stream i).queue.map aged).filter fun r => !isStale (s.stream i).ageLimit r }
    refine windowFit_withdrawIfEmpty (windowFitBut_of_view hqueue ((hr _ _).trans ((windowView_countStream _ _ _).trans ?_)))
    rw [freeBufs_eq]
    rfl

theorem windowFit_wrapAct {s : State} (before : State) (k : WrapPlan) (a : WrapAct) (h : WindowFit s) :
    WindowFit (wrapAct before k a s) := by
  cases a with
  | sync =>
    show WindowFit (syncAct k s)
    unfold syncAct
    dsimp only
    rw [reportSync_eq]
    exact windowFit_gateEnds h rfl rfl rfl fun _ => rfl
  | plan => exact windowFit_planAct k h
  | close => exact windowFit_closeWindow h
  | age i =>
    refine windowFit_ageStream i (reports := fun n => reportTimes n (.stale i)) (fun n t => ?_) h
    rw [reportTimes_eq]
    rfl
  | notes => exact windowFit_of_view h rfl
  | grantU =>
    show WindowFit (decideU before s)
    rcases decideU_cases before s with ⟨-, he⟩ | ⟨-, he⟩ <;> rw [he]
    · exact windowFit_arbiterU h
    · exact h
  | ageAmid i k acts grants =>
    refine windowFit_ageStream i (fun n t => ?_) h
    exact reportAmid_keeps (I := fun u => windowView u = windowView t) (fun o hu => (windowView_report o _).trans hu)
      (fun hu => hu) (fun hu => by rw [arbiterU_eq]; exact hu) i k before acts grants n rfl
  | unit => exact h

/-- Nothing that happens in a running part breaks the laws of the window. -/
theorem windowKept_kept : KeptByBlocks WindowKept where
  quiet hs h := by
    refine ⟨plansOrdered_kept.quiet hs.plans h, streamsBounded_kept.quiet hs.streams h, ?_⟩
    cases h with
    | byte p b => exact windowFit_lines.byte p b hs.fit
    | _ => exact windowFit_of_view hs.fit rfl
  event hs h := ⟨plansOrdered_event hs.plans h, streamsBounded_event hs.streams h, windowFit_event hs h⟩
  arbiterU hs := ⟨plansOrdered_kept.arbiterU hs.plans, streamsBounded_arbiterU hs.streams, windowFit_arbiterU hs.fit⟩
  arbiterD hs := ⟨plansOrdered_kept.arbiterD hs.plans, streamsBounded_arbiterD hs.streams, windowFit_arbiterD hs.fit⟩
  begin k hs := ⟨plansOrdered_kept.begin k hs.plans, hs.streams, windowFit_of_view hs.fit rfl⟩
  act before k a hs := ⟨plansOrdered_kept.act before k a hs.plans, streamsBounded_wrapAct before k a hs.streams,
    windowFit_wrapAct before k a hs.fit⟩
  copy k hs := ⟨plansOrdered_copyPlan k hs.plans, streamsBounded_kept.copy k hs.streams,
    windowFit_of_view hs.fit (by unfold copyPlan; split <;> rfl)⟩
  rewind hs := ⟨plansOrdered_kept.rewind hs.plans, hs.streams, windowFit_of_view hs.fit rfl⟩

theorem windowLaws_iff_of_running {s : State} (hrun : s.power = .running) : WindowLaws s ↔ WindowKept s := by
  constructor
  · rintro ⟨plans, streams, quota, request, gate, win⟩
    exact ⟨plans, streams, quota, request, gate, win.1 hrun⟩
  · rintro ⟨plans, streams, quota, request, gate, win⟩
    exact ⟨plans, streams, quota, request, gate, fun _ => win, fun hp => absurd (hrun.symm.trans hp) (by decide)⟩

theorem windowLaws_lift : Lifts WindowKept WindowLaws where
  kept := windowKept_kept.events
  running := windowLaws_iff_of_running
  pending _ hs := by
    obtain ⟨plans, streams, quota, request, gate, win⟩ := hs
    exact ⟨plansOrdered_of_view plans rfl, streams, quota, request, gate, win⟩
  begins _ hs := by
    obtain ⟨plans, streams, quota, request, gate, -⟩ := hs
    exact ⟨plansOrdered_of_view plans rfl, streams, quota, request, gate, fun hr => (by cases hr), fun _ => ⟨rfl, rfl⟩⟩
  conditions _ _ hs := by
    obtain ⟨plans, streams, quota, request, gate, win⟩ := hs
    exact ⟨plansOrdered_of_view plans rfl, streams, quota, request, gate, win⟩
  values straps s := ⟨plansOrdered_initial rfl, streamsBounded_powerOnValues straps s, WindowShut.fit ⟨rfl, rfl, rfl⟩⟩

end Sys2Proof.Invariants
end

section
/-! PROOF. O60: no transmitter is left IDLE on a line that is UP beside a candidate that needs no guard (R31, R32, R99,
R100). -/

namespace Sys2Proof.Invariants

open Sys2Proof.Machine Sys2Proof.Safety Sys2Proof.Claims Sys2Proof.Link

/-! ### The two halves of the law -/

/-- An IDLE port U with its line UP has no returned frame, no reply and no note on offer. -/
def NoIdleU (s : State) : Prop :=
  s.txU = none → s.portU.link = .up → s.stores.back = [] ∧ s.mgmt.outbox = [] ∧ noteOffered s.notes = none

/-- An IDLE port D with its line UP has no mark and no standing request. -/
def NoIdleD (s : State) : Prop :=
  s.txD = none → s.portD.link = .up → s.stores.mark = none ∧ s.engine.request = false

theorem noIdleU_of_view {s t : State} (h : NoIdleU s) (hv : arbiterViewU t = arbiterViewU s) : NoIdleU t := by
  simp only [arbiterViewU, Prod.mk.injEq] at hv
  obtain ⟨htx, hlink, hback, houtbox, hnotes⟩ := hv
  unfold NoIdleU
  rw [htx, hlink, hback, houtbox, hnotes]
  exact h

theorem noIdleD_of_view {s t : State} (h : NoIdleD s) (hv : arbiterViewD t = arbiterViewD s) : NoIdleD t := by
  simp only [arbiterViewD, Prod.mk.injEq] at hv
  obtain ⟨htx, hlink, hmark, -, hengine, -⟩ := hv
  unfold NoIdleD
  rw [htx, hlink, hmark, hengine]
  exact h

/-! ### A decision leaves its own transmitter BUSY or without a candidate (R31, R99) -/

/-- The PART class leaves port U BUSY, or found neither a reply nor a note. -/
theorem grantPart_cases (s : State) :
    (grantPart s).txU ≠ none ∨ grantPart s = s ∧ s.mgmt.outbox = [] ∧ noteOffered s.notes = none := by
  unfold grantPart
  split
  · exact .inl (by simp [grantReply, startU])
  · rename_i houtbox
    split
    · exact .inl (by simp [grantNote, startU])
    · rename_i hnote
      exact .inr ⟨rfl, houtbox, hnote⟩

theorem noIdleU_arbiterU (s : State) : NoIdleU (arbiterU s) := by
  by_cases hlive : s.txU = none ∧ s.portU.link = .up
  · obtain ⟨hidle, hup⟩ := hlive
    cases hback : s.stores.back with
    | nil =>
      rw [arbiterU_of_no_back hidle hup hback]
      rcases grantPart_cases s with hbusy | ⟨he, houtbox, hnote⟩
      · exact fun hn => absurd hn hbusy
      · rw [he]
        exact fun _ _ => ⟨hback, houtbox, hnote⟩
    | cons x q =>
      by_cases hpart : partWaits s = true ∧ s.stores.lastSource = .back
      · rw [arbiterU_of_part hidle hup hpart.1 hpart.2]
        rcases grantPart_cases s with hbusy | ⟨-, houtbox, hnote⟩
        · exact fun hn => absurd hn hbusy
        · exact absurd (hpart.1.symm.trans (partWaits_eq_false houtbox hnote)) (by decide)
      · have hclass : s.stores.lastSource = .part ∨ partWaits s = false := by
          cases hl : s.stores.lastSource with
          | part => exact .inl rfl
          | back => exact .inr (by simpa [hl] using hpart)
        rw [arbiterU_of_back hidle hup hback hclass, grantBack_eq]
        exact fun hn => (by cases hn)
  · have hblocked : s.txU ≠ none ∨ s.portU.link = .down := by
      cases hl : s.portU.link with
      | up => exact .inl fun hidle => hlive ⟨hidle, hl⟩
      | down => exact .inr rfl
    rw [arbiterU_of_busy hblocked]
    exact fun hidle hup => absurd ⟨hidle, hup⟩ hlive

theorem noIdleD_tryPass {s : State} (h : NoIdleD s) : NoIdleD (tryPass s) := by
  unfold tryPass
  split
  · split
    · rw [grantPass_eq]
      exact fun hn => (by cases hn)
    · exact h
  · exact h

theorem noIdleD_arbiterD {s : State} (hreq : RequestJustified s) : NoIdleD (arbiterD s) := by
  by_cases hlive : s.txD = none ∧ s.portD.link = .up
  · obtain ⟨hidle, hup⟩ := hlive
    cases hmark : s.stores.mark with
    | some m =>
      rw [arbiterD_of_mark hidle hup hmark]
      exact fun hn => (by cases hn)
    | none =>
      rw [arbiterD_of_no_mark hidle hup hmark]
      cases hr : s.engine.request with
      | true =>
        obtain ⟨w, hw, -, -, hne⟩ := hreq hr
        obtain ⟨r, q, hq⟩ := List.exists_cons_of_ne_nil hne
        rw [tryRelease_of_request hr hw hq, grantRelease_eq]
        exact fun hn => (by cases hn)
      | false =>
        rw [tryRelease_of_no_request hr]
        exact noIdleD_tryPass fun _ _ => ⟨hmark, hr⟩
  · have hblocked : s.txD ≠ none ∨ s.portD.link = .down := by
      cases hl : s.portD.link with
      | up => exact .inl fun hidle => hlive ⟨hidle, hl⟩
      | down => exact .inr rfl
    rw [arbiterD_of_busy hblocked]
    exact fun hidle hup => absurd ⟨hidle, hup⟩ hlive

/-! ### What no event has invoked an arbiter for (R32, R100) -/

theorem noIdleU_of_not_invoked {before after : State} (h : NoIdleU before) (hno : invokesU before after = false) :
    NoIdleU after := by
  simp only [invokesU, Bool.or_eq_false_iff] at hno
  obtain ⟨⟨⟨⟨htx, hlink⟩, hback⟩, houtbox⟩, hnote⟩ := hno
  intro hidle hup
  have hidle' : before.txU = none := by simpa [hidle] using htx
  have hup' : before.portU.link = .up := by
    cases hl : before.portU.link with
    | up => rfl
    | down => simp [hl, hup] at hlink
  obtain ⟨hb, ho, hn⟩ := h hidle' hup'
  refine ⟨by simpa [hb] using hback, by simpa [ho] using houtbox, ?_⟩
  cases hoff : noteOffered after.notes with
  | none => rfl
  | some r => simp [noteAppears, hoff, hn] at hnote

theorem noIdleD_of_not_invoked {before after : State} (h : NoIdleD before) (hno : invokesD before after = false) :
    NoIdleD after := by
  simp only [invokesD, Bool.or_eq_false_iff] at hno
  obtain ⟨⟨⟨⟨⟨⟨⟨htx, hlink⟩, hmark⟩, hrequest⟩, -⟩, -⟩, -⟩, -⟩ := hno
  intro hidle hup
  have hidle' : before.txD = none := by simpa [hidle] using htx
  have hup' : before.portD.link = .up := by
    cases hl : before.portD.link with
    | up => rfl
    | down => simp [hl, hup] at hlink
  obtain ⟨hm, hr⟩ := h hidle' hup'
  exact ⟨by simpa [hm] using hmark, by simpa [hr] using hrequest⟩

/-! ### The decisions at the end of an event and at a wrap -/

theorem arbiterViewU_arbiterD (s : State) : arbiterViewU (arbiterD s) = arbiterViewU s := by
  rcases arbiterD_cases s with he | ⟨-, ⟨m, he⟩ | ⟨w, r, q, -, -, -, he⟩ | ⟨b, q, -, he⟩⟩ <;> rw [he]
  · rfl
  · rw [grantRelease_eq]; rfl
  · rw [grantPass_eq]; rfl

theorem arbiterViewD_arbiterU (s : State) : arbiterViewD (arbiterU s) = arbiterViewD s := by
  rcases arbiterU_cases s with he | ⟨-, ⟨b, q, -, he⟩ | ⟨r, he⟩ | ⟨r, -, he⟩⟩ <;> rw [he] <;> rfl

/-- The end of an event: an arbiter that is not invoked has found no new candidate. -/
theorem noIdle_conclude {before after : State} (hU : NoIdleU before) (hD : NoIdleD before)
    (hreq : RequestJustified after) : NoIdleU (conclude before after) ∧ NoIdleD (conclude before after) := by
  have hd : arbiterViewU (if invokesD before after then arbiterD after else after) = arbiterViewU after ∧
      NoIdleD (if invokesD before after then arbiterD after else after) := by
    split
    · exact ⟨arbiterViewU_arbiterD after, noIdleD_arbiterD hreq⟩
    · rename_i hno
      exact ⟨rfl, noIdleD_of_not_invoked hD (by simpa using hno)⟩
  obtain ⟨hview, hidleD⟩ := hd
  unfold conclude
  extract_lets t
  split
  · exact ⟨noIdleU_arbiterU t, noIdleD_of_view hidleD (arbiterViewD_arbiterU t)⟩
  · rename_i hno
    exact ⟨noIdleU_of_view (noIdleU_of_not_invoked hU (by simpa using hno)) hview, hidleD⟩

theorem noIdleU_wrap {s : State} (t : State) (h : NoIdleU s) : NoIdleU (decideU s t) := by
  rcases decideU_cases s t with ⟨-, he⟩ | ⟨hno, he⟩ <;> rw [he]
  · exact noIdleU_arbiterU t
  · exact noIdleU_of_not_invoked h hno

theorem noIdleD_wrap (s : State) {t : State} (hreq : RequestJustified t) : NoIdleD (decideU s (arbiterD t)) := by
  rcases decideU_cases s (arbiterD t) with ⟨-, he⟩ | ⟨-, he⟩ <;> rw [he]
  · exact noIdleD_of_view (noIdleD_arbiterD hreq) (arbiterViewD_arbiterU _)
  · exact noIdleD_arbiterD hreq

/-! ### The ticks and the bytes -/

theorem arbiterView_byteEvent (p : Port) (b : Byte) (s : State) : arbiterView (byteEvent p b s) = arbiterView s := by
  have hrx : ∀ rx t, arbiterView (setRx p rx t) = arbiterView t := fun rx t => by cases p <;> rfl
  unfold byteEvent
  dsimp only
  split
  · exact hrx _ s
  · split
    · rfl
    · exact hrx _ s
  · refine (hrx _ _).trans ?_
    rw [writeByte_eq]
    rfl
  · rfl

/-- A tick makes no transmitter IDLE. -/
theorem elapse_eq_none {σ : Type} {t : Option (Transmission σ)} : elapse t = none ↔ t = none := Option.map_eq_none_iff

theorem noIdle_quiet {s t : State} (hU : NoIdleU s) (hD : NoIdleD s) (h : Quiet s t) : NoIdleU t ∧ NoIdleD t := by
  cases h with
  | byte p b =>
    obtain ⟨hviewU, hviewD⟩ := Prod.mk.inj (arbiterView_byteEvent p b s)
    exact ⟨noIdleU_of_view hU hviewU, noIdleD_of_view hD hviewD⟩
  | cycFall => exact ⟨hU, hD⟩
  | advance => exact ⟨fun hidle => hU (elapse_eq_none.1 hidle), fun hidle => hD (elapse_eq_none.1 hidle)⟩
  | comeToWrap => exact ⟨fun hidle => hU (elapse_eq_none.1 hidle), fun hidle => hD (elapse_eq_none.1 hidle)⟩

/-! ### The invariant -/

/-- The laws of the window hold, and neither transmitter is IDLE beside a candidate that needs no guard. -/
structure IdleKept (s : State) : Prop where
  window : WindowKept s
  portU : NoIdleU s
  portD : NoIdleD s

/-- Nothing that happens in a running part leaves a transmitter IDLE beside such a candidate. -/
theorem idleKept_kept : KeptByEvents IdleKept where
  quiet hs h := by
    obtain ⟨portU, portD⟩ := noIdle_quiet hs.portU hs.portD h
    exact ⟨windowKept_kept.quiet hs.window h, portU, portD⟩
  event hs h := by
    have hafter := windowKept_kept.event hs.window h
    obtain ⟨portU, portD⟩ := noIdle_conclude hs.portU hs.portD hafter.fit.request
    exact ⟨windowKept_kept.conclude _ hafter, portU, portD⟩
  wrap order hs :=
    ⟨windowKept_kept.events.wrap order hs.window, noIdleU_wrap _ hs.portU,
      noIdleD_wrap _ (windowKept_kept.wrapBlocks order hs.window).fit.request⟩

theorem noCandidateIdle_iff_of_running {s : State} (hrun : s.power = .running) : NoCandidateIdle s ↔ IdleKept s := by
  constructor
  · rintro ⟨hlaws, hidle⟩
    obtain ⟨portU, portD⟩ := hidle hrun
    exact ⟨(windowLaws_iff_of_running hrun).1 hlaws, portU, portD⟩
  · rintro ⟨window, portU, portD⟩
    exact ⟨(windowLaws_iff_of_running hrun).2 window, fun _ => ⟨portU, portD⟩⟩

theorem noCandidateIdle_lift : Lifts IdleKept NoCandidateIdle where
  kept := idleKept_kept
  running := noCandidateIdle_iff_of_running
  pending rest hs := ⟨windowLaws_lift.pending rest hs.1, hs.2⟩
  begins hc hs := ⟨windowLaws_lift.begins hc hs.1, fun hr => (by cases hr)⟩
  conditions hp hc hs := ⟨windowLaws_lift.conditions hp hc hs.1, fun hr => absurd (hp.symm.trans hr) (by decide)⟩
  values straps s := ⟨windowLaws_lift.values straps s, fun _ hup => (by cases hup), fun _ hup => (by cases hup)⟩

/-- Settles O60: each arbiter is invoked where a candidate appears or its transmitter becomes IDLE, and its decision
leaves the transmitter BUSY or without a candidate; a request that stands finds its window and a frame. -/
theorem noCandidateIdleKept : Obligations.NoCandidateIdleKept := fun _ _ hs he => noCandidateIdle_lift.step hs he

end Sys2Proof.Invariants
end

section
/-! PROOF. The configurations of the stream entries, what leaves them as they are, and the settling of the obligation on
the stream table (R35 to R37, R46 to R49, R54). -/

namespace Sys2Proof.Invariants

open Sys2Proof.Machine Sys2Proof.Safety Sys2Proof.Claims Sys2Proof.Link

/-! ### What leaves every entry's configuration (R36) -/

/-- An entry without its queue and its counters. -/
def configuration (x : Stream) : Stream := { x with queue := [], counters := {} }

/-- The configurations of the stream table. -/
def configView (s : State) : StreamId → Stream := fun i => configuration (s.stream i)

/-- A change of an entry's queue or counters. -/
theorem configView_setStream (s : State) {i : StreamId} {x : Stream}
    (h : configuration x = configuration (s.stream i)) : configView (setStream i x s) = configView s := by
  funext j
  unfold configView
  rw [setStream_stream]
  split
  · rename_i hij; rw [h, hij]
  · rfl

theorem configView_countStream (i : StreamId) (f : StreamCounters → StreamCounters) (s : State) :
    configView (countStream i f s) = configView s := configView_setStream s rfl

theorem configView_setQueue (i : StreamId) (q : List Held) (s : State) :
    configView (setQueue i q s) = configView s := configView_setStream s rfl

theorem configView_report (o : Occurrence) (s : State) : configView (report o s) = configView s := by
  rw [report_eq]; rfl

theorem configView_freeBufs (bs : List BufId) (s : State) : configView (freeBufs bs s) = configView s := by
  rw [freeBufs_eq]; rfl

theorem configView_withdrawIfEmpty (i : StreamId) (s : State) : configView (withdrawIfEmpty i s) = configView s := by
  rw [withdrawIfEmpty_eq]; rfl

theorem configView_raiseFor (i : StreamId) (s : State) : configView (raiseFor i s) = configView s := by
  rw [raiseFor_eq]; rfl

theorem configView_supersedeHead (i : StreamId) (s : State) : configView (supersedeHead i s) = configView s := by
  unfold supersedeHead
  split
  · exact (configView_report _ _).trans ((configView_countStream i _ _).trans (configView_setQueue i _ _))
  · rfl

theorem configView_admitRecord (i : StreamId) (b : BufId) (s : State) : configView (admitRecord i b s) = configView s :=
  configView_setQueue i _ (markBuf b .queued s)

/-- An admission changes an entry's queue and counters alone (R38 to R40). -/
theorem configView_admitFrame (i : StreamId) (b : BufId) (s : State) : configView (admitFrame i b s) = configView s := by
  unfold admitFrame
  extract_lets u
  have hu : configView u = configView s := configView_countStream i _ s
  split
  · exact (configView_raiseFor i _).trans ((configView_admitRecord i b u).trans hu)
  · split
    · exact (configView_raiseFor i _).trans
        ((configView_admitRecord i b _).trans ((configView_supersedeHead i u).trans hu))
    · exact (configView_report _ _).trans ((configView_countStream i _ (freeBuf b u)).trans hu)

theorem configView_lines (v : StreamId → Stream) : KeptOnLines fun s => configView s = v where
  port p x hs := by cases p <;> exact hs
  report o hs := (configView_report o _).trans hs
  buffers _ _ _ hs := hs
  counters _ hs := hs
  pass _ hs := by unfold passAppend; split <;> exact hs
  back _ hs := by unfold backAppend; split <;> exact hs
  admission b _ hs := (configView_admitFrame _ b _).trans hs
  mark hs := by rw [deliverMark_frame]; exact hs
  offer hs := by rw [offerRequest_frame]; exact hs

theorem configView_purgeQueue (i : StreamId) (s : State) : configView (purgeQueue i s) = configView s :=
  (configView_withdrawIfEmpty i _).trans ((configView_countStream i _ _).trans
    ((configView_setQueue i [] _).trans (configView_freeBufs _ s)))

theorem configView_missedCheck (s : State) : configView (missedCheck s) = configView s := by
  unfold missedCheck
  split
  · split
    · exact (configView_report _ _).trans (configView_countStream _ _ s)
    · rfl
  · rfl

theorem configView_closeWindow (s : State) : configView (closeWindow s) = configView s := by
  unfold closeWindow
  rcases endWindow_eq (missedCheck s) with ⟨-, he⟩ | ⟨w, -, he⟩ <;> rw [he] <;> exact configView_missedCheck s

theorem configView_completeD (t : Transmission SourceD) (s : State) : configView (completeD t s) = configView s := by
  rw [completeD_eq]
  cases t.source with
  | release b attached =>
    cases attached with
    | none => rfl
    | some i => exact configView_countStream i (fun c => { c with released := c.released + 1 }) s
  | _ => rfl

theorem configView_arbiterU (s : State) : configView (arbiterU s) = configView s := by rw [arbiterU_eq]; rfl

/-- A grant on port D takes a frame from a queue at most (R43, R99). -/
theorem configView_arbiterD (s : State) : configView (arbiterD s) = configView s := by
  rcases arbiterD_cases s with he | ⟨-, ⟨m, he⟩ | ⟨w, x, q, -, -, -, he⟩ | ⟨b, q, -, he⟩⟩ <;> rw [he]
  · rfl
  · rw [grantRelease_eq]
    exact configView_setQueue w.stream q s
  · rfl

theorem configView_ageStream (i : StreamId) {reports : Nat → State → State}
    (h : ∀ n t, configView (reports n t) = configView t) (s : State) :
    configView (ageStream i reports s) = configView s := by
  rcases ageStream_cases i reports s with he | ⟨-, n, c, he⟩ <;> rw [he]
  · exact h 0 s
  · exact (configView_withdrawIfEmpty i _).trans ((h _ _).trans ((configView_countStream i c _).trans
      ((configView_freeBufs _ _).trans (configView_setQueue i _ s))))

/-- No block's action at a wrap changes a configuration (R44, R56, R92). -/
theorem configView_wrapAct (before : State) (k : WrapPlan) (a : WrapAct) (s : State) :
    configView (wrapAct before k a s) = configView s := by
  cases a with
  | sync =>
    show configView (syncAct k s) = _
    unfold syncAct
    dsimp only
    rw [gateEnds_eq, reportSync_eq]
    rfl
  | plan => show configView (planAct k s) = _; rw [planAct_eq]; rfl
  | close => exact configView_closeWindow s
  | age i => exact configView_ageStream i (fun n t => by rw [reportTimes_eq]; rfl) s
  | notes => rfl
  | grantU =>
    show configView (decideU before s) = _
    rcases decideU_cases before s with ⟨-, he⟩ | ⟨-, he⟩ <;> rw [he]
    exact configView_arbiterU s
  | ageAmid i n acts grants =>
    exact configView_ageStream i (fun m t =>
      reportAmid_keeps (I := fun u => configView u = configView t) (fun o hu => (configView_report o _).trans hu)
        (fun hu => hu) (fun hu => (configView_arbiterU _).trans hu) i n before acts grants m rfl) s
  | unit => rfl

/-! ### No two valid entries with one TAG (R35, R46) -/

/-- Entries that are valid afterwards were valid before, under the same TAG. -/
theorem tagsDistinct_of_valid {s t : State} (h : TagsDistinct s)
    (hv : ∀ i, (t.stream i).valid = true → (s.stream i).valid = true ∧ (t.stream i).tag = (s.stream i).tag) :
    TagsDistinct t := by
  intro i j hi hj htag
  obtain ⟨hvi, hti⟩ := hv i hi
  obtain ⟨hvj, htj⟩ := hv j hj
  exact h i j hvi hvj (hti.symm.trans (htag.trans htj))

theorem tagsDistinct_of_config {s t : State} (h : TagsDistinct s) (he : configView t = configView s) :
    TagsDistinct t :=
  tagsDistinct_of_valid h fun i hi =>
    have hentry : configuration (t.stream i) = configuration (s.stream i) := congrFun he i
    ⟨(congrArg Stream.valid hentry).symm.trans hi, (congrArg Stream.tag hentry :)⟩

/-- An entry that keeps its TAG, or is no longer valid, brings no TAG into the table. -/
theorem tagsDistinct_setStream {s : State} (h : TagsDistinct s) {i : StreamId} {x : Stream}
    (hx : x.valid = true → (s.stream i).valid = true ∧ x.tag = (s.stream i).tag) :
    TagsDistinct (setStream i x s) := by
  refine tagsDistinct_of_valid h fun j hj => ?_
  rw [setStream_stream] at hj ⊢
  split at hj
  · rename_i hij
    subst hij
    rw [if_pos rfl]
    exact hx hj
  · rename_i hij
    rw [if_neg hij]
    exact ⟨hj, rfl⟩

/-- A TAG that no other valid entry has may be given to an entry (R46, check 3). -/
theorem tagsDistinct_setStream_fresh {s : State} (h : TagsDistinct s) {i : StreamId} {x : Stream}
    (hfresh : tagTaken s i x.tag = false) : TagsDistinct (setStream i x s) := by
  have hother : ∀ j, j ≠ i → (s.stream j).valid = true → (s.stream j).tag ≠ x.tag := by
    simpa [tagTaken] using hfresh
  intro j k hj hk htag
  rw [setStream_stream] at hj hk htag
  rw [setStream_stream] at htag
  by_cases hij : i = j <;> by_cases hik : i = k
  · exact hij.symm.trans hik
  · rw [if_neg hik] at hk htag
    rw [if_pos hij] at htag
    exact absurd htag.symm (hother k (Ne.symm hik) hk)
  · rw [if_neg hij] at hj htag
    rw [if_pos hik] at htag
    exact absurd htag (hother j (Ne.symm hij) hj)
  · rw [if_neg hij] at hj htag
    rw [if_neg hik] at hk htag
    exact h j k hj hk htag

theorem writtenStream_tag (x : Stream) (w : StreamWriteArgs) : (writtenStream x w).tag = w.tag := by
  unfold writtenStream; split <;> rfl

theorem tagsDistinct_effect {s t : State} (h : TagsDistinct s) (he : Effect s t) : TagsDistinct t := by
  cases he with
  | writeStream _ _ hunique =>
    exact tagsDistinct_setStream_fresh h (by rw [writtenStream_tag]; exact hunique)
  | deleteStream =>
    unfold deleteStream
    dsimp only
    rw [detach_eq]
    exact tagsDistinct_setStream (tagsDistinct_of_config h (configView_purgeQueue _ s)) fun hv => (by cases hv)
  | lockStream => exact tagsDistinct_setStream h fun hv => ⟨hv, rfl⟩
  | purge => exact tagsDistinct_of_config h (configView_purgeQueue _ s)
  | hold limit => unfold beginHold; dsimp only; rw [gateEnds_eq]; exact h
  | configureSync => rw [gateEnds_eq, reportSync_eq]; exact h
  | zero g =>
    cases g with
    | port p => cases p <;> exact h
    | stream i => exact tagsDistinct_of_config h (configView_countStream i _ s)
    | _ => exact h
  | _ => exact h

/-- A restart makes entries invalid, and none valid (R54). -/
theorem tagsDistinct_restartValues {s : State} (h : TagsDistinct s) : TagsDistinct (restartValues s) := by
  refine tagsDistinct_of_valid h fun i hi => ?_
  rw [restartValues_stream] at hi ⊢
  unfold restartStream at hi ⊢
  split at hi
  · rename_i hlocked
    rw [if_pos hlocked]
    exact ⟨hi, rfl⟩
  · cases hi

theorem tagsDistinct_completeU {s : State} (h : TagsDistinct s) (t : Transmission SourceU) :
    TagsDistinct (completeU t s) := by
  have hidle : TagsDistinct (idledU s) := h
  rcases completeU_cases t s with ⟨x, -, he⟩ | ⟨-, he | he | ⟨-, he⟩⟩ | ⟨-, he⟩ <;> rw [he]
  · exact h
  · exact h
  · exact tagsDistinct_restartValues hidle
  · exact h
  · exact h

theorem tagsDistinct_event {s t : State} (h : TagsDistinct s) (he : Event s t) : TagsDistinct t := by
  cases he with
  | header p b => exact tagsDistinct_of_config h ((configView_lines _).header p b rfl)
  | frameEnd p b => exact tagsDistinct_of_config h ((configView_lines _).frameEnd p b rfl)
  | link p l => exact tagsDistinct_of_config h ((configView_lines _).link p l rfl)
  | completeD => exact tagsDistinct_of_config h (configView_completeD _ s)
  | completeU => exact tagsDistinct_completeU h _
  | engine =>
    exact engineEvent_keeps (I := TagsDistinct) (fun hs => tagsDistinct_of_config hs (configView_closeWindow _))
      (fun hs => by rw [takeSlot_eq]; exact hs) h
  | request _ ht =>
    exact answered_keeps (I := TagsDistinct) tagsDistinct_effect (fun _ hs => hs)
      (fun o hs => tagsDistinct_of_config hs (configView_report o _)) h ht

/-- Nothing that happens in a running part gives two valid entries one TAG. -/
theorem tagsDistinct_kept : KeptByBlocks TagsDistinct where
  quiet hs h := by
    cases h with
    | byte p b => exact tagsDistinct_of_config hs ((configView_lines _).byte p b rfl)
    | _ => exact hs
  event hs h := tagsDistinct_event hs h
  arbiterU hs := tagsDistinct_of_config hs (configView_arbiterU _)
  arbiterD hs := tagsDistinct_of_config hs (configView_arbiterD _)
  begin _ hs := hs
  act before k a hs := tagsDistinct_of_config hs (configView_wrapAct before k a _)
  copy _ hs := by unfold copyPlan; split <;> exact hs
  rewind hs := hs

theorem tagsDistinct_powerOnValues (straps : NodeAddr) (s : State) : TagsDistinct (powerOnValues straps s) := by
  intro i j hi
  have he : (powerOnValues straps s).stream i = {} := Vector.getElem_replicate i.isLt
  rw [he] at hi
  cases hi

theorem streamTable_lift : Lifts StreamTable StreamTable where
  kept := (streamsBounded_kept.and tagsDistinct_kept).events
  running _ := Iff.rfl
  pending _ hs := hs
  begins _ hs := hs
  conditions _ _ hs := hs
  values straps s := ⟨streamsBounded_powerOnValues straps s, tagsDistinct_powerOnValues straps s⟩

/-- Settles O54: only STREAM_WRITE gives an entry a TAG, and it checks that no other valid entry has it. -/
theorem streamTableKept : Obligations.StreamTableKept := fun _ _ hs he => streamTable_lift.step hs he

end Sys2Proof.Invariants
end

section
/-! PROOF. A request of the table answered in one reply frame: how the unit takes it, the frame it places, and what follows
where its owner invokes no arbiter (R32, R100, R128 to R136, R144). -/

namespace Sys2Proof.Requests

open Sys2Proof.Machine Sys2Proof.Safety Sys2Proof.Claims Sys2Proof.Link

/-! ### The reply frame (R131, R144) -/

/-- The second byte of a reply: KIND 4 and the two high bits of TAG. -/
theorem replyKind_byte (tag : Tag) :
    kindMrep ++ ((0 : BitVec 3) ++ tag.extractLsb' 8 2) = BitVec.ofNat 8 (128 + tag.toNat / 256) := by
  apply BitVec.eq_of_toNat_eq
  have hlow : (tag.extractLsb' 8 2).toNat = tag.toNat / 256 := by
    have := tag.isLt
    rw [BitVec.extractLsb'_toNat, Nat.shiftRight_eq_div_pow]
    omega
  have hlt : tag.toNat / 256 < 2 ^ 5 := by have := tag.isLt; omega
  rw [BitVec.toNat_append, BitVec.toNat_append, hlow, BitVec.toNat_ofNat]
  show 4 <<< 5 ||| (0 <<< 2 ||| tag.toNat / 256) = _
  rw [Nat.zero_shiftLeft, Nat.zero_or, ← Nat.shiftLeft_add_eq_or_of_lt hlt]
  omega

theorem tagLow_byte (tag : Tag) : tag.extractLsb' 0 8 = BitVec.ofNat 8 tag.toNat := by
  apply BitVec.eq_of_toNat_eq
  simp

theorem nodeAddr_byte (node : NodeAddr) : node.zeroExtend 8 = BitVec.ofNat 8 node.toNat := by
  apply BitVec.eq_of_toNat_eq
  simp

theorem replyFrame_eq (node : NodeAddr) (tag : Tag) (op : Byte) (st : Status) (result : List Byte) :
    replyFrame node tag op st result = replyBytes node tag op st.code result := by
  have hlen : ([op, st.code, BitVec.ofNat 8 node.toNat] ++ result).length = 3 + result.length := by
    rw [List.length_append]; rfl
  have hbody : frameBody 0 kindMrep tag ([op, st.code, node.zeroExtend 8] ++ result) =
      [0, BitVec.ofNat 8 (128 + tag.toNat / 256), BitVec.ofNat 8 tag.toNat, BitVec.ofNat 8 (3 + result.length), op,
        st.code, BitVec.ofNat 8 node.toNat] ++ result := by
    unfold frameBody
    rw [replyKind_byte, tagLow_byte, nodeAddr_byte, hlen]
    rfl
  unfold replyFrame mkFrame replyBytes
  dsimp only
  rw [hbody, bytesBE_two]

/-! ### The request taken next (R128 to R130, R135, R136) -/

theorem nextRequest_of_takes {s : State} {f : FrameBytes} {rest : List FrameBytes} (h : Takes s f rest) :
    nextRequest s = some f := by
  simp [nextRequest, h.running, h.ready, h.head]

section
variable {s : State} {f : FrameBytes} {rest : List FrameBytes} {op : Byte} {args : List Byte}

/-- An addressed request that is no copy of the last one is its own step's. -/
theorem rowOf_of_request {o : Op} (ha : Addressed s f) (hr : Request s f rest op args) (hop : Op.ofByte op = some o) :
    rowOf s.mgmt f = .op o := by
  have hown : isBroadcast f = false := by simpa [isBroadcast, broadcastAddr] using ha.dest
  have hfresh : cacheHit s.mgmt f = false := by
    unfold cacheHit
    split
    · rename_i e he
      simpa using ha.fresh e he
    · rfl
  have hopOf : opOf f = some o := by unfold opOf; rw [hr.payload]; exact hop
  unfold rowOf
  rw [hown, hfresh, hopOf]
  rfl

/-- A request of the right LEN comes to its owner with its arguments. -/
theorem runOp_of_request {o : Op} {owner : List Byte → State → Answer} (ha : Addressed s f)
    (hr : Request s f rest op args) (hlen : o.len = args.length + 1) (t : State) :
    runOp o owner f t = answerRequest f (owner args t) := by
  have hown : isBroadcast f = false := by simpa [isBroadcast, broadcastAddr] using ha.dest
  have hargs : argsOf f = args := by unfold argsOf; rw [hr.payload]; rfl
  unfold runOp checked
  rw [hown, if_neg Bool.false_ne_true, if_pos (hr.length.trans hlen.symm), hargs]

end

/-! ### The answer (R129, R131, R132, R134) -/

/-- What the effect of a request must leave for its reply to be placed, and no arbiter but that of port U invoked (R32,
R100, R132). -/
structure Undisturbed (s t : State) : Prop where
  nodeAddr : t.nodeAddr = s.nodeAddr
  input : t.mgmt.input = s.mgmt.input
  parts : t.mgmt.parts = s.mgmt.parts
  viewU : arbiterViewU t = arbiterViewU s
  quietD : invokesD s t = false

theorem Undisturbed.refl (s : State) : Undisturbed s s := ⟨rfl, rfl, rfl, rfl, invokesD_of_view_eq rfl⟩

/-- An owner's answer to the request that has left the input queue is the verdict on the state before (R130, R131). -/
structure AnswersAs (s : State) (a : Answer) (v : Verdict) : Prop where
  status : a.status.code = v.status
  results : a.results = [v.result]
  state : a.state = takeHead v.state
  undisturbed : Undisturbed s v.state

/-- A failing check. -/
theorem answersAs_refuse (s : State) (st : Status) : AnswersAs s (refuse (takeHead s) st) (refused st.code s) :=
  ⟨rfl, rfl, rfl, .refl s⟩

/-- A check made in the owner's words and in the verdict's. -/
theorem answersAs_ite {s : State} {p q : Prop} [Decidable p] [Decidable q] {a b : Answer} {v w : Verdict}
    (hpq : p ↔ q) (hpass : p → AnswersAs s a v) (hfail : ¬ p → AnswersAs s b w) :
    AnswersAs s (if p then a else b) (if q then v else w) := by
  by_cases hp : p
  · rw [if_pos hp, if_pos (hpq.1 hp)]
    exact hpass hp
  · rw [if_neg hp, if_neg fun hq => hp (hpq.2 hq)]
    exact hfail hp

/-- A request that only reads. -/
theorem answersAs_read (s : State) (st : Status) {result result' : List Byte} (h : result = result') :
    AnswersAs s { state := takeHead s, status := st, results := [result] }
      { status := st.code, result := result', state := s } :=
  ⟨rfl, congrArg (fun r => [r]) h, rfl, .refl s⟩

/-- One reply placed where the outbox has room and no part waits (R128, R132). -/
theorem settleUnit_placeReplies {m : Mgmt} (hroom : m.outbox.length < 2) (hparts : m.parts = []) (r : Reply) :
    settleUnit (placeReplies [r] m) =
      { m with outbox := m.outbox ++ [r], mode := if m.outbox = [] then .ready else .stalled } := by
  obtain ⟨mode, input, outbox, parts, cache, unmatched, guardMargin, counters⟩ := m
  obtain rfl : parts = [] := hparts
  rcases outbox with _ | ⟨x, _ | ⟨y, l⟩⟩
  · rfl
  · rfl
  · exact absurd hroom (by simp)

theorem answerRequest_eq {s : State} {f : FrameBytes} {rest : List FrameBytes} {op : Byte} {args : List Byte}
    (hr : Request s f rest op args) {a : Answer} {v : Verdict} (h : AnswersAs s a v) :
    answerRequest f a = answered s f rest op v := by
  obtain ⟨hstatus, hresults, hstate, hnode, hinput, hparts, hviewU, -⟩ := h
  obtain ⟨⟨-, -, hhead, hroom, hnone⟩, hpayload, -⟩ := hr
  simp only [arbiterViewU, Prod.mk.injEq] at hviewU
  obtain ⟨-, -, -, houtbox, -⟩ := hviewU
  have hframes : replyFrames a.state.nodeAddr f a = [replyBytes s.nodeAddr (tagOf f) op v.status v.result] := by
    have hop : opByte f = op := by unfold opByte; rw [hpayload]; rfl
    have haddr : a.state.nodeAddr = s.nodeAddr := by rw [hstate]; exact hnode
    unfold replyFrames
    rw [hresults, haddr, List.map_singleton, replyFrame_eq, hstatus, hop]
  have hrest : v.state.mgmt.input.tail = rest := by rw [hinput, hhead]; rfl
  show { countExecuted a.state with
      mgmt := settleUnit (placeReplies ((replyFrames a.state.nodeAddr f a).map fun b => { bytes := b, ofRestart := false })
        { (countExecuted a.state).mgmt with
          cache := some { tag := tagOf f, payload := payloadOf f, replies := replyFrames a.state.nodeAddr f a } }) } = _
  rw [← houtbox] at hroom
  have hplaced (c : Option CacheEntry) (r : Reply) :=
    settleUnit_placeReplies (m := { (countExecuted (takeHead v.state)).mgmt with cache := c }) hroom
      (hparts.trans hnone) r
  rw [hframes, hstate, List.map_singleton, hplaced]
  unfold answered
  rw [← hrest, ← houtbox]
  rfl

/-- The answer invokes the U transmitter arbiter where it comes into an empty outbox, and nothing else (R32, R100). -/
theorem conclude_answered {s : State} {v : Verdict} (h : Undisturbed s v.state) (f : FrameBytes)
    (rest : List FrameBytes) (op : Byte) :
    conclude s (answered s f rest op v) = offered s (answered s f rest op v) := by
  have hD : invokesD s (answered s f rest op v) = false := h.quietD
  have hview := h.viewU
  simp only [arbiterViewU, Prod.mk.injEq] at hview
  obtain ⟨htx, hlink, hback, -, hnotes⟩ := hview
  have hU : invokesU s (answered s f rest op v) = s.mgmt.outbox.isEmpty := by
    have hnote : noteAppears s (answered s f rest op v) = false := noteAppears_of_notes_eq hnotes
    unfold invokesU
    rw [hnote]
    show ((s.txU.isSome && v.state.txU.isNone) || (s.portU.link == .down && v.state.portU.link == .up) ||
      (s.stores.back.isEmpty && !v.state.stores.back.isEmpty) ||
      (s.mgmt.outbox.isEmpty && !(s.mgmt.outbox ++ _).isEmpty) || false) = _
    rw [htx, hlink, hback]
    cases s.txU <;> cases s.portU.link <;> cases s.stores.back <;> cases s.mgmt.outbox <;> rfl
  unfold conclude offered
  rw [hD, hU]
  cases s.mgmt.outbox <;> rfl

/-- A request of the table that invokes no arbiter beside its reply is answered as its verdict says. -/
theorem execOp_eq {s : State} {f : FrameBytes} {rest : List FrameBytes} {op : Byte} {args : List Byte} {o : Op}
    {owner : List Byte → State → Answer} {v : Verdict} (ha : Addressed s f) (hr : Request s f rest op args)
    (hop : Op.ofByte op = some o) (hlen : o.len = args.length + 1)
    (h : AnswersAs s (owner args (takeHead s)) v) :
    execOp o owner s = offered s (answered s f rest op v) := by
  unfold execOp
  rw [takeRequest_taken (nextRequest_of_takes hr.takes) (rowOf_of_request ha hr hop), runOp_of_request ha hr hlen,
    answerRequest_eq hr h, conclude_answered h.undisturbed]

end Sys2Proof.Requests
end

section
/-! PROOF. The requests on the stream table and SLOT_READ: each owner's checks in order, what it answers and the state it
leaves, and the settling of the obligations on them (R43, R46 to R52, R91, R111). -/

namespace Sys2Proof.Requests

open Sys2Proof.Machine Sys2Proof.Safety Sys2Proof.Claims Sys2Proof.Link Sys2Proof.Invariants

/-! ### Arguments (R144, R145) -/

theorem natBE_one (a : Byte) : natBE [a] = a.toNat := by simp [natBE]

theorem natBE_two (a b : Byte) : natBE [a, b] = word2 a b := by simp [natBE, word2]

theorem streamIdOf_of_lt {n : Nat} (h : n < 32) : streamIdOf n = some ⟨n, h⟩ := dif_pos h

theorem streamIdOf_of_not_lt {n : Nat} (h : ¬ n < 32) : streamIdOf n = none := dif_neg h

theorem indexArg_single (i : Byte) : indexArg [i] = streamIdOf i.toNat := congrArg streamIdOf (natBE_one i)

/-- Every rule on one entry refuses an index outside the table with ARG first. -/
theorem answersAs_index {s : State} {i : Byte} {onEntry : StreamId → Answer} {verdict : i.toNat < 32 → Verdict}
    (h : ∀ hi, AnswersAs s (onEntry ⟨i.toNat, hi⟩) (verdict hi)) :
    AnswersAs s
      (match indexArg [i] with
       | some k => onEntry k
       | none => refuse (takeHead s) .arg)
      (if hi : i.toNat < 32 then verdict hi else refused 3 s) := by
  rw [indexArg_single]
  by_cases hi : i.toNat < 32
  · rw [streamIdOf_of_lt hi, dif_pos hi]
    exact h hi
  · rw [streamIdOf_of_not_lt hi, dif_neg hi]
    exact answersAs_refuse s .arg

/-! ### STREAM_READ and SLOT_READ (R50, R111) -/

theorem streamBytes_eq (x : Stream) : streamBytes x = streamReadResult x := by
  unfold streamBytes streamReadResult
  rw [bytesBE_two]
  cases x.policy <;> cases x.queue <;>
    simp [Policy.code, flagByte, yesNo, countBytes, StreamCounters.list, headBytes, bytesBE_four]

theorem streamRead_answers (i : Byte) (s : State) :
    AnswersAs s (streamReadOwner [i] (takeHead s)) (streamReadVerdict i s) := by
  refine answersAs_index fun hi => ?_
  show AnswersAs s (if !(s.stream ⟨i.toNat, hi⟩).valid then _ else _) _
  cases (s.stream ⟨i.toNat, hi⟩).valid with
  | false => exact answersAs_refuse s .absent
  | true => exact answersAs_read s .ok (streamBytes_eq _)

theorem planStatusBytes_eq (p : Plan) : planStatusBytes p = planStatus p := by
  have hmode : p.mode.code = planCode p.mode := by cases p.mode <;> rfl
  unfold planStatusBytes planStatus
  simp only [bytesBE_four, hmode]
  cases p.target <;> rfl

theorem slotBytes_eq (x : Slot) (spent : Bool) : slotBytes x spent = slotFields x spent := by
  unfold slotBytes slotFields
  rw [bytesBE_four, bytesBE_two]
  rfl

/-- SLOT_READ's answer on the slot it finds (R111). -/
theorem slotFound_answers (s : State) (x : Slot) (spent : Bool) :
    AnswersAs s (accept (takeHead s) (planStatusBytes s.plan ++ slotBytes x spent))
      { status := 0, result := planStatus s.plan ++ slotFields x spent, state := s } :=
  answersAs_read s .ok (by rw [planStatusBytes_eq, slotBytes_eq])

/-- SLOT_READ's answer beyond the last slot: ABSENT, with the plan status (R111). -/
theorem slotAbsent_answers (s : State) :
    AnswersAs s { state := takeHead s, status := .absent, results := [planStatusBytes s.plan ++ noSlotBytes] }
      { status := 4, result := planStatus s.plan ++ List.replicate 12 0, state := s } :=
  answersAs_read s .absent (by rw [planStatusBytes_eq]; rfl)

theorem slotRead_answers (plan pos : Byte) (s : State) :
    AnswersAs s (slotReadOwner [plan, pos] (takeHead s)) (slotReadVerdict plan pos s) := by
  have hplan : arg [plan, pos] 0 1 = plan.toNat := natBE_one plan
  have hpos : arg [plan, pos] 1 1 = pos.toNat := natBE_one pos
  have hzero : plan.toNat = 0 ↔ plan = 0 := BitVec.toNat_inj (y := 0#8)
  unfold slotReadOwner slotReadVerdict
  rw [hplan, hpos]
  dsimp only
  split
  · exact answersAs_refuse s .arg
  · show AnswersAs s (match slotAt s.plan plan.toNat pos.toNat with | some (x, spent) => _ | none => _) _
    unfold slotAt
    simp only [hzero]
    by_cases hp : plan = 0
    · rw [if_pos hp, if_pos hp]
      cases s.plan.staged[pos.toNat]? with
      | some x => exact slotFound_answers s x false
      | none => exact slotAbsent_answers s
    · rw [if_neg hp, if_neg hp]
      cases s.plan.active[pos.toNat]? with
      | some a => exact slotFound_answers s a.slot a.spent
      | none => exact slotAbsent_answers s

/-- Settles O37. -/
theorem streamReadAndSlotReadAnswer : Obligations.StreamReadAndSlotReadAnswer := fun s _ _ ha =>
  ⟨fun i hr => congrArg Host.Outcome.next (execOp_eq ha hr rfl rfl (streamRead_answers i s)),
    fun plan pos hr => congrArg Host.Outcome.next (execOp_eq ha hr rfl rfl (slotRead_answers plan pos s))⟩

/-! ### STREAM_WRITE (R36, R46) -/

/-- The ranges of R36 on what STREAM_WRITE carries, the index apart. -/
abbrev WriteOutOfRange (th tl depth policy age : Byte) : Prop :=
  1023 < word2 th tl ∨ depth.toNat < 1 ∨ 4 < depth.toNat ∨ 1 < policy.toNat ∨ 15 < age.toNat

theorem policyOf_byte (b : Byte) :
    policyOf b.toNat = if 1 < b.toNat then none else some (if b = 0 then .keep else .replace) := by
  have hzero : b = 0 ↔ b.toNat = 0 := (BitVec.toNat_inj (y := 0#8)).symm
  rcases Nat.lt_or_ge 1 b.toNat with h | h
  · obtain ⟨n, hn⟩ := Nat.exists_eq_add_of_le' (show 2 ≤ b.toNat from h)
    rw [if_pos h, hn]
    rfl
  · have hflag : b.toNat = 0 ∨ b.toNat = 1 := by omega
    rcases hflag with h | h
    · rw [if_neg (by omega), if_pos (hzero.2 h), h]
      rfl
    · rw [if_neg (by omega), if_neg fun hb => absurd (hzero.1 hb) (by omega), h]
      rfl

theorem streamWriteArgs_eq (i th tl depth policy age : Byte) :
    streamWriteArgs [i, th, tl, depth, policy, age] =
      if h : i.toNat < 32 then
        if WriteOutOfRange th tl depth policy age then none
        else
          some { index := ⟨i.toNat, h⟩, tag := BitVec.ofNat 10 (word2 th tl), depth := depth.toNat,
                 policy := if policy = 0 then .keep else .replace, ageLimit := age.toNat }
      else none := by
  have hindex : arg [i, th, tl, depth, policy, age] 0 1 = i.toNat := natBE_one i
  have htag : arg [i, th, tl, depth, policy, age] 1 2 = word2 th tl := natBE_two th tl
  have hdepth : arg [i, th, tl, depth, policy, age] 3 1 = depth.toNat := natBE_one depth
  have hpolicy : arg [i, th, tl, depth, policy, age] 4 1 = policy.toNat := natBE_one policy
  have hage : arg [i, th, tl, depth, policy, age] 5 1 = age.toNat := natBE_one age
  unfold streamWriteArgs WriteOutOfRange
  rw [hindex, htag, hdepth, hpolicy, hage, policyOf_byte]
  by_cases hi : i.toNat < 32
  · rw [streamIdOf_of_lt hi, dif_pos hi]
    by_cases hp : 1 < policy.toNat
    · rw [if_pos hp, if_pos (.inr (.inr (.inr (.inl hp))))]
    · rw [if_neg hp]
      generalize (if policy = 0 then Policy.keep else .replace) = chosen
      dsimp only
      by_cases hr : word2 th tl ≤ 1023 ∧ 1 ≤ depth.toNat ∧ depth.toNat ≤ 4 ∧ age.toNat ≤ 15
      · rw [if_pos hr, if_neg (by omega)]
      · rw [if_neg hr, if_pos (by omega)]
  · rw [streamIdOf_of_not_lt hi, dif_neg hi]

/-- A TAG in range is told by its number. -/
theorem tag_eq_iff {t : Tag} {n : Nat} (hn : n ≤ 1023) : t = BitVec.ofNat 10 n ↔ t.toNat = n := by
  rw [← BitVec.toNat_inj, BitVec.toNat_ofNat, Nat.mod_eq_of_lt (by omega)]

theorem tagTaken_iff (s : State) (i : StreamId) {n : Nat} (hn : n ≤ 1023) :
    tagTaken s i (BitVec.ofNat 10 n) = true ↔
      ∃ j : StreamId, j.val ≠ i.val ∧ (s.stream j).valid = true ∧ (s.stream j).tag.toNat = n := by
  simp [tagTaken, tag_eq_iff hn, Fin.ext_iff, and_assoc]

theorem writeNeedsEmpty_iff (x : Stream) (w : StreamWriteArgs) :
    writeNeedsEmpty x w = true ↔ x.valid = true ∧ (x.tag ≠ w.tag ∧ x.queue ≠ [] ∨ w.depth < x.queue.length) := by
  simp [writeNeedsEmpty]

theorem writtenStream_eq (x : Stream) (w : StreamWriteArgs) :
    writtenStream x w =
      { (if x.valid then x else { valid := true } : Stream) with
        tag := w.tag, depth := w.depth, policy := w.policy, ageLimit := w.ageLimit } := by
  obtain ⟨valid, _, _, _, _, _, _, _⟩ := x
  cases valid <;> rfl

/-- A request that changes one entry. -/
theorem answersAs_setStream (s : State) (k : StreamId) {x y : Stream} (h : x = y) (result : List Byte) :
    AnswersAs s (accept (setStream k x (takeHead s)) result)
      { status := 0, result := result, state := { s with streams := s.streams.set k.val y k.isLt } } :=
  ⟨rfl, rfl, by rw [h]; rfl, ⟨rfl, rfl, rfl, rfl, invokesD_of_view_eq rfl⟩⟩

theorem streamWrite_answers (i th tl depth policy age : Byte) (s : State) :
    AnswersAs s (streamWriteOwner [i, th, tl, depth, policy, age] (takeHead s))
      (streamWriteVerdict i th tl depth policy age s) := by
  unfold streamWriteOwner streamWriteVerdict
  rw [streamWriteArgs_eq]
  dsimp only
  by_cases hi : i.toNat < 32
  · rw [dif_pos hi, dif_pos hi]
    by_cases hrange : WriteOutOfRange th tl depth policy age
    · rw [if_pos hrange, if_pos hrange]
      exact answersAs_refuse s .arg
    · have htag : word2 th tl ≤ 1023 := by unfold WriteOutOfRange at hrange; omega
      rw [if_neg hrange, if_neg hrange]
      dsimp only
      refine answersAs_ite Iff.rfl (fun _ => answersAs_refuse s .locked) fun _ => ?_
      refine answersAs_ite (tagTaken_iff s ⟨i.toNat, hi⟩ htag) (fun _ => answersAs_refuse s .duplicate) fun _ => ?_
      refine answersAs_ite ?_ (fun _ => answersAs_refuse s .notEmpty) fun _ => ?_
      · exact (writeNeedsEmpty_iff _ _).trans (by rw [ne_eq, tag_eq_iff htag]; exact Iff.rfl)
      · exact answersAs_setStream s ⟨i.toNat, hi⟩ (writtenStream_eq _ _) []
  · rw [dif_neg hi, dif_neg hi]
    exact answersAs_refuse s .arg

/-- Settles O40. -/
theorem streamWriteConfigures : Obligations.StreamWriteConfigures := fun s _ _ i th tl depth policy age ha hr =>
  congrArg Host.Outcome.next (execOp_eq ha hr rfl rfl (streamWrite_answers i th tl depth policy age s))

/-! ### STREAM_DELETE, STREAM_LOCK and STREAM_PURGE (R43, R47, R48, R52, R91) -/

theorem streamLock_answers (i : Byte) (s : State) :
    AnswersAs s (streamLockOwner [i] (takeHead s)) (streamLockVerdict i s) := by
  refine answersAs_index fun hi => ?_
  exact answersAs_ite (Bool.not_eq_true' _).to_iff (fun _ => answersAs_refuse s .absent)
    fun _ => answersAs_setStream s ⟨i.toNat, hi⟩ rfl []

theorem freeBufs_pool_congr (bs : List BufId) {s t : State} (h : t.pool = s.pool) :
    (freeBufs bs t).pool = (freeBufs bs s).pool := by
  induction bs generalizing s t with
  | nil => exact h
  | cons b bs ih => exact ih (congrArg (fun v : Vector Buffer 64 => v.set b {}) h)

/-- Of two writes to one entry the later stands. -/
theorem setStream_setStream (i : StreamId) (x y : Stream) (s : State) :
    setStream i y (setStream i x s) = setStream i y s := by
  unfold setStream
  rw [Vector.set_set]

/-- An entry that holds nothing has its request withdrawn (R91). -/
theorem withdrawIfEmpty_of_empty {i : StreamId} {s : State} (h : (s.stream i).queue = []) :
    (withdrawIfEmpty i s).engine = (emptied i s).engine := by
  have hemptied : (emptied i s).engine =
      { s.engine with
        request :=
          match s.engine.window with
          | some w => if w.stream = i then false else s.engine.request
          | none => s.engine.request } := rfl
  rw [hemptied]
  unfold withdrawIfEmpty
  cases hw : s.engine.window with
  | none => rfl
  | some w =>
    dsimp only
    by_cases hi : w.stream = i
    · rw [if_pos ⟨hi, h⟩, if_pos hi]
      rfl
    · rw [if_neg (fun hc => hi hc.1), if_neg hi]

/-- Removing the held frames changes the pool and the request alone. -/
theorem emptied_eq (i : StreamId) (s : State) :
    emptied i s = { s with pool := (emptied i s).pool, engine := (emptied i s).engine } := by
  unfold emptied
  rw [freeBufs_eq]

theorem emptied_takeHead (i : StreamId) (s : State) : emptied i (takeHead s) = takeHead (emptied i s) := by
  have hpool : (emptied i (takeHead s)).pool = (emptied i s).pool := freeBufs_pool_congr _ rfl
  rw [emptied_eq, hpool, emptied_eq i s]
  rfl

/-- An entry after a purge (R52). -/
def purgedStream (x : Stream) : Stream :=
  { x with
    queue := []
    counters := { x.counters with purged := x.counters.purged + BitVec.ofNat 32 x.queue.length } }

/-- Purging is removing the held frames and counting them in PURGED (R52, R91). -/
theorem purgeQueue_eq_emptied (i : StreamId) (s : State) :
    purgeQueue i s = { emptied i s with streams := s.streams.set i.val (purgedStream (s.stream i)) i.isLt } := by
  have hentry : (freeBufs ((s.stream i).queue.map Held.buffer) s).stream i = s.stream i := by rw [freeBufs_eq]; rfl
  have hset : countStream i (fun c => { c with purged := c.purged + BitVec.ofNat 32 (s.stream i).queue.length })
      (setQueue i [] (freeBufs ((s.stream i).queue.map Held.buffer) s)) =
        setStream i (purgedStream (s.stream i)) (freeBufs ((s.stream i).queue.map Held.buffer) s) := by
    unfold countStream
    rw [setQueue_stream_self, hentry]
    unfold setQueue
    rw [setStream_setStream]
    rfl
  unfold purgeQueue
  dsimp only
  rw [hset, withdrawIfEmpty_eq, withdrawIfEmpty_of_empty (by simp [purgedStream])]
  unfold emptied
  rw [freeBufs_eq]
  rfl

theorem detach_txD (i : StreamId) (s : State) : (detach i s).txD = detached i s.txD := by
  unfold detach detached
  cases ht : s.txD with
  | none => exact ht
  | some t =>
    obtain ⟨source, bytes, remaining⟩ := t
    cases source with
    | mark => exact ht
    | pass b => exact ht
    | release b attached =>
      cases attached with
      | none => exact ht
      | some j =>
        dsimp only
        split
        · rfl
        · exact ht

/-- A deletion removes the held frames, makes the entry invalid with its counters 0 and detaches its release (R43,
R47). -/
theorem deleteStream_eq (i : StreamId) (s : State) :
    deleteStream i s =
      { emptied i s with
        streams := s.streams.set i.val { s.stream i with valid := false, queue := [], counters := {} } i.isLt
        txD := detached i s.txD } := by
  have hentry : (purgeQueue i s).stream i = purgedStream (s.stream i) := by
    rw [purgeQueue_eq_emptied]
    exact setStream_stream_self i _ s
  have hset : ∀ x y, (s.streams.set i.val x i.isLt).set i.val y i.isLt = s.streams.set i.val y i.isLt := fun x y =>
    congrArg State.streams (setStream_setStream i x y s)
  unfold deleteStream
  dsimp only
  rw [detach_eq, detach_txD, hentry, purgeQueue_eq_emptied]
  unfold setStream
  dsimp only
  rw [hset, emptied_eq]
  rfl

theorem pendingSwitch_eq (p : Plan) : pendingSwitch p = p.mode.switching := by
  unfold pendingSwitch
  cases p.mode <;> rfl

theorem streamInUse_iff (i : StreamId) (p : Plan) :
    streamInUse i p = true ↔
      (∃ a ∈ p.active, a.slot.stream = i) ∨ (pendingSwitch p = true ∧ ∃ y ∈ p.staged, y.stream = i) := by
  simp [streamInUse, pendingSwitch_eq]

/-- An event that raises no request, and leaves the rest of what port D's arbiter follows, does not invoke it (R100). -/
theorem invokesD_of_no_request {s t : State} (htx : t.txD.isNone = s.txD.isNone) (hlink : t.portD.link = s.portD.link)
    (hstores : t.stores = s.stores) (hnext : t.engine.nextSlot = s.engine.nextSlot)
    (hwindow : t.engine.window = s.engine.window) (hrequest : t.engine.request = true → s.engine.request = true)
    (hgate : gateOpen t = gateOpen s) : invokesD s t = false := by
  have hraised : (!s.engine.request && t.engine.request) = false := by
    cases hr : t.engine.request with
    | false => simp
    | true => simp [hrequest hr]
  simp only [invokesD, htx, hlink, hstores, hnext, hwindow, hraised, hgate, Bool.and_not_self, bne_self_eq_false]
  cases s.txD <;> cases s.portD.link <;> cases s.stores.mark <;> rfl

/-- The removal of held frames withdraws a request at most (R91). -/
theorem undisturbed_emptied (i : StreamId) (s : State) (v : Vector Machine.Stream 32) {d : Option (Transmission SourceD)}
    (hd : d.isNone = s.txD.isNone) : Undisturbed s { emptied i s with streams := v, txD := d } := by
  rw [emptied_eq]
  refine ⟨rfl, rfl, rfl, rfl, invokesD_of_no_request hd rfl rfl rfl rfl (fun hr => ?_) rfl⟩
  have hr' : (match s.engine.window with
      | some w => if w.stream = i then false else s.engine.request
      | none => s.engine.request) = true := hr
  split at hr'
  · split at hr'
    · cases hr'
    · exact hr'
  · exact hr'

theorem detached_isNone (i : StreamId) (d : Option (Transmission SourceD)) : (detached i d).isNone = d.isNone := by
  unfold detached
  split
  · split
    · split <;> rfl
    all_goals rfl
  · rfl

theorem streamDelete_answers (i : Byte) (s : State) :
    AnswersAs s (streamDeleteOwner [i] (takeHead s)) (streamDeleteVerdict i s) := by
  refine answersAs_index fun hi => ?_
  refine answersAs_ite (Bool.not_eq_true' _).to_iff (fun _ => answersAs_refuse s .absent) fun _ => ?_
  refine answersAs_ite Iff.rfl (fun _ => answersAs_refuse s .locked) fun _ => ?_
  refine answersAs_ite (streamInUse_iff ⟨i.toNat, hi⟩ s.plan) (fun _ => answersAs_refuse s .inUse) fun _ => ?_
  refine ⟨rfl, rfl, ?_, undisturbed_emptied ⟨i.toNat, hi⟩ s _ (detached_isNone ⟨i.toNat, hi⟩ s.txD)⟩
  show deleteStream ⟨i.toNat, hi⟩ (takeHead s) = _
  rw [deleteStream_eq, emptied_takeHead]
  rfl

theorem streamPurge_answers (i : Byte) (s : State) :
    AnswersAs s (streamPurgeOwner [i] (takeHead s)) (streamPurgeVerdict i s) := by
  refine answersAs_index fun hi => ?_
  refine answersAs_ite (Bool.not_eq_true' _).to_iff (fun _ => answersAs_refuse s .absent) fun _ => ?_
  have hquiet := undisturbed_emptied ⟨i.toNat, hi⟩ s (s.streams.set i.toNat (purgedStream (s.stream ⟨i.toNat, hi⟩)) hi)
    (d := s.txD) rfl
  have htx : (emptied ⟨i.toNat, hi⟩ s).txD = s.txD := by rw [emptied_eq]
  rw [← htx] at hquiet
  refine ⟨rfl, rfl, ?_, hquiet⟩
  show purgeQueue ⟨i.toNat, hi⟩ (takeHead s) = _
  rw [purgeQueue_eq_emptied, emptied_takeHead]
  rfl

/-- Settles O41. -/
theorem streamDeleteLockPurge : Obligations.StreamDeleteLockPurge := fun s _ _ i ha =>
  ⟨fun hr => congrArg Host.Outcome.next (execOp_eq ha hr rfl rfl (streamDelete_answers i s)),
    fun hr => congrArg Host.Outcome.next (execOp_eq ha hr rfl rfl (streamLock_answers i s)),
    fun hr => congrArg Host.Outcome.next (execOp_eq ha hr rfl rfl (streamPurge_answers i s))⟩

end Sys2Proof.Requests
end

section
/-! PROOF. The wrap as it is taken where it is next, the one place of each block in its order, and when no window stands
for port D's arbiter to grant from (R55, R56, R92, R96, R100). -/

namespace Sys2Proof.Wraps

open Sys2Proof.Machine Sys2Proof.Safety Sys2Proof.Claims Sys2Proof.Link Sys2Proof.Invariants

/-! ### The wrap is next (R55) -/

theorem settleClock_of_claimsQuiet {s : State} (h : Claims.Quiet s) : settleClock s = s := by
  obtain ⟨-, -, htxU, htxD, hclose, htake, hcyc⟩ := h
  refine settleClock_of_quiet htxD htxU ?_ ?_ ?_
  · unfold closeDue
    split
    · rename_i w hw; simpa using hclose w hw
    · rfl
  · unfold takeDue
    split
    · rename_i a ha; simpa using htake a ha
    · rfl
  · unfold cycDue
    cases hc : s.cyc with
    | false => rfl
    | true => simpa [Config.cycHigh] using hcyc hc

theorem nextRequest_of_unasked {s : State} (h : Unasked s) : nextRequest s = none := by
  by_cases hm : s.mgmt.mode = .ready
  · exact nextRequest_of_empty (h hm)
  · exact nextRequest_of_not_ready hm

/-- Where the wrap is next, nothing comes before it. -/
theorem settleBefore_of_atWrap {s : State} {order : List WrapAct} (h : AtWrap s order) : settleBefore order s = s := by
  have hclock : (if s.timer.wrapping then s else settleClock s) = s := by
    cases hw : s.timer.wrapping with
    | true => rfl
    | false => exact settleClock_of_claimsQuiet (h.quiet hw)
  unfold settleBefore
  rw [hclock]
  dsimp only
  split
  · rfl
  · rename_i hunit
    exact takeWaiting_of_none (nextRequest_of_unasked (h.unasked.resolve_left hunit))

/-- Where the wrap is next, its tick has come once `reachWrap` is done. -/
theorem reachWrap_of_atWrap {s : State} {order : List WrapAct} (h : AtWrap s order) :
    reachWrap s = { s with
      timer := { s.timer with wrapping := true }
      txU := (reachWrap s).txU
      txD := (reachWrap s).txD } := by
  have hdue : wrapDue s = true := by simp [wrapDue, h.due]
  rcases reachWrap_cases s with ⟨-, -, he⟩ | ⟨hw | hw, he⟩
  · rw [he]; rfl
  · rw [he, ← hw]
  · rw [hdue] at hw; cases hw

/-- The tick that is the wrap ends no transmission. -/
theorem reachWrap_txD_none {s : State} (h : (reachWrap s).txD = none) : s.txD = none := by
  rcases reachWrap_cases s with ⟨-, -, he⟩ | ⟨-, he⟩ <;> rw [he] at h
  · exact Option.map_eq_none_iff.1 h
  · exact h

/-- A wrap that is next, and meets the limit its step names, is taken. -/
theorem wrapWhen_of_atWrap {s : State} {order : List WrapAct} (h : AtWrap s order) {cond : State → Bool}
    (hcond : cond (reachWrap s) = true) : wrapWhen cond order s = wrapEvent order (reachWrap s) := by
  have hw : (reachWrap s).timer.wrapping = true := by rw [reachWrap_of_atWrap h]
  unfold wrapWhen
  rw [settleBefore_of_atWrap h]
  dsimp only
  rw [hw, hcond, h.running]
  rfl

/-! ### The place of each block's action in the order (R56) -/

/-- Whatever order is named, a block's action stands at one place of the whole order. -/
theorem fullOrder_split (order : List WrapAct) {b : WrapAct} (hb : b ∈ defaultOrder) :
    ∃ pre a post, fullOrder order defaultOrder = pre ++ a :: post ∧ b ∈ a.blocks ∧
      (∀ x ∈ pre, b ∉ x.blocks) ∧ ∀ x ∈ post, b ∉ x.blocks := by
  have hperm := fullOrder_perm order defaultOrder defaultOrder_nodup fun _ h => h
  have hnodup := hperm.nodup_iff.2 defaultOrder_nodup
  obtain ⟨a, ha, hba⟩ := List.mem_flatMap.1 (hperm.mem_iff.2 hb)
  obtain ⟨pre, post, hsplit⟩ := List.append_of_mem ha
  rw [hsplit, List.flatMap_append, List.flatMap_cons, List.nodup_append, List.nodup_append] at hnodup
  obtain ⟨-, ⟨-, -, hpost⟩, hpre⟩ := hnodup
  refine ⟨pre, a, post, hsplit, hba, fun x hx hbx => ?_, fun x hx hbx => ?_⟩
  · exact hpre b (List.mem_flatMap.2 ⟨x, hx, hbx⟩) b (List.mem_append_left _ hba) rfl
  · exact hpost b hba b (List.mem_flatMap.2 ⟨x, hx, hbx⟩) rfl

/-- The blocks' actions at a wrap, in an order. -/
def acted (before : State) (k : WrapPlan) (acts : List WrapAct) (s : State) : State :=
  acts.foldl (fun t a => wrapAct before k a t) s

/-- What the actions of a list keep, one by one, they keep together. -/
theorem acted_keeps {I : State → Prop} {before : State} {k : WrapPlan} {acts : List WrapAct}
    (h : ∀ a ∈ acts, ∀ {t}, I t → I (wrapAct before k a t)) {s : State} (hs : I s) : I (acted before k acts s) := by
  induction acts generalizing s with
  | nil => exact hs
  | cons a acts ih => exact ih (fun x hx => h x (List.mem_cons_of_mem a hx)) (h a List.mem_cons_self hs)

theorem acted_append (before : State) (k : WrapPlan) (pre : List WrapAct) (a : WrapAct) (post : List WrapAct)
    (s : State) :
    acted before k (pre ++ a :: post) s = acted before k post (wrapAct before k a (acted before k pre s)) := by
  simp [acted]

/-- After the blocks' actions the staged plan may be copied and the next-slot position is 0. -/
theorem wrapBlocks_eq (order : List WrapAct) (s : State) :
    wrapBlocks order s =
      { acted s (wrapPlan s) (fullOrder order defaultOrder) (beginCycle (wrapPlan s) s) with
        plan := (wrapBlocks order s).plan
        engine :=
          { (acted s (wrapPlan s) (fullOrder order defaultOrder) (beginCycle (wrapPlan s) s)).engine with
            nextSlot := 0 } } := by
  unfold wrapBlocks copyPlan
  dsimp only
  split <;> rfl

/-! ### No window after the close (R92, R96) -/

theorem engine_arbiterU (s : State) : (arbiterU s).engine = s.engine := by rw [arbiterU_eq]

theorem engine_reportAmid (i : StreamId) (k : Nat) (before : State) (acts grants : Bool) (n : Nat) (s : State) :
    (reportAmid i k (amidAgeing before acts grants) n s).engine = s.engine :=
  reportAmid_keeps (I := fun t => t.engine = s.engine) (fun o h => by rw [report_eq]; exact h) (fun h => h)
    (fun h => (engine_arbiterU _).trans h) i k before acts grants n rfl

theorem window_endWindow (s : State) : (endWindow s).engine.window = none := by
  rcases endWindow_eq s with ⟨hw, he⟩ | ⟨w, -, he⟩ <;> rw [he]
  exact hw

theorem window_ageStream (i : StreamId) {reports : Nat → State → State}
    (h : ∀ n t, (reports n t).engine = t.engine) (s : State) :
    (ageStream i reports s).engine.window = s.engine.window := by
  rcases ageStream_cases i reports s with he | ⟨-, n, c, he⟩ <;> rw [he]
  · rw [h]
  · rw [withdrawIfEmpty_eq, h, freeBufs_eq]
    rfl

/-- No block's action at a wrap opens a window. -/
theorem window_wrapAct {s : State} (before : State) (k : WrapPlan) (a : WrapAct) (hs : s.engine.window = none) :
    (wrapAct before k a s).engine.window = none := by
  cases a with
  | sync =>
    show (gateEnds s (reportSync s.sync.mode _)).engine.window = none
    rcases gateEnds_cases s (reportSync s.sync.mode { s with sync := syncAfterWrap s.sync k.ending k.evaluation k.length })
      with ⟨-, -, he⟩ | ⟨-, he⟩ <;> rw [he]
    · exact window_endWindow _
    · rw [reportSync_eq]; exact hs
  | plan => show (planAct k s).engine.window = none; rw [planAct_eq]; exact hs
  | close => exact window_endWindow _
  | age i =>
    exact (window_ageStream i (fun n t => by rw [reportTimes_eq]) s).trans hs
  | notes => exact hs
  | grantU =>
    show (decideU before s).engine.window = none
    rcases decideU_cases before s with ⟨-, he⟩ | ⟨-, he⟩ <;> rw [he]
    · rw [engine_arbiterU]; exact hs
    · exact hs
  | ageAmid i n acts grants =>
    exact (window_ageStream i (engine_reportAmid i n before acts grants) s).trans hs
  | unit => exact hs

theorem mem_blocks_close {a : WrapAct} (h : .close ∈ a.blocks) : a = .close := by
  cases a with
  | close => rfl
  | ageAmid i n acts grants => cases acts <;> simp [WrapAct.blocks] at h
  | _ => simp [WrapAct.blocks] at h

/-- The close is one of the wrap's actions, so that no window stands after them. -/
theorem window_wrapBlocks (order : List WrapAct) (s : State) : (wrapBlocks order s).engine.window = none := by
  obtain ⟨pre, a, post, hsplit, ha, -, -⟩ := fullOrder_split order (b := .close) (by decide)
  obtain rfl := mem_blocks_close ha
  rw [wrapBlocks_eq, hsplit, acted_append]
  exact acted_keeps (I := fun t => t.engine.window = none) (fun x _ _ ht => window_wrapAct s _ x ht) (window_endWindow _)

/-- Without a window no release is granted (R99). -/
theorem arbiterD_of_no_window {s : State} (h : s.engine.window = none) :
    arbiterD s =
      { s with txD := (arbiterD s).txD, pool := (arbiterD s).pool, stores := (arbiterD s).stores } := by
  rcases arbiterD_cases s with he | ⟨-, ⟨m, he⟩ | ⟨w, x, q, -, hw, -, -⟩ | ⟨b, q, -, he⟩⟩
  · rw [he]
  · rw [he]; rfl
  · rw [h] at hw; cases hw
  · rw [he]; rfl

/-- The state in which a slot at OPEN 0 finds the part: the blocks have acted and the arbiters have decided (R87,
R100). -/
def newCycle (order : List WrapAct) (s : State) : State := decideU s (arbiterD (wrapBlocks order s))

/-- The arbiters' decisions at a wrap leave the stream table, the release engine, the plan and the timer. -/
theorem newCycle_eq (order : List WrapAct) (s : State) :
    newCycle order s =
      { wrapBlocks order s with
        txU := (newCycle order s).txU
        txD := (newCycle order s).txD
        pool := (newCycle order s).pool
        stores := (newCycle order s).stores
        notes := (newCycle order s).notes } := by
  unfold newCycle
  rcases decideU_cases s (arbiterD (wrapBlocks order s)) with ⟨-, he⟩ | ⟨-, he⟩ <;> rw [he]
  · rw [arbiterU_eq, arbiterD_of_no_window (window_wrapBlocks order s)]
  · rw [arbiterD_of_no_window (window_wrapBlocks order s)]

theorem newCycle_nextSlot (order : List WrapAct) (s : State) : (newCycle order s).engine.nextSlot = 0 := by
  rw [newCycle_eq, wrapBlocks_eq]

theorem newCycle_offset (order : List WrapAct) (s : State) : (newCycle order s).timer.offset = 0 := by
  have htimer := (foldl_wrapAct_keepsLines s (wrapPlan s) (fullOrder order defaultOrder)
    (beginCycle (wrapPlan s) s)).timer
  rw [newCycle_eq, wrapBlocks_eq]
  exact congrArg Timer.offset htimer

theorem wrapEvent_eq (order : List WrapAct) (s : State) : wrapEvent order s = finishEngine (newCycle order s) := rfl

/-- The first event of the new cycle: the take of a slot at OPEN 0, if there is one; no window is there to close (R87). -/
theorem wrapEvent_cases (order : List WrapAct) (s : State) :
    wrapEvent order s = newCycle order s ∨
    (¬ NoneAtZero (newCycle order s)) ∧
      wrapEvent order s = conclude (newCycle order s) (takeSlot (newCycle order s)) := by
  have hwindow : (newCycle order s).engine.window = none := by rw [newCycle_eq]; exact window_wrapBlocks order s
  have hclose : closeDue (newCycle order s) = false := by unfold closeDue; rw [hwindow]
  rw [wrapEvent_eq]
  unfold finishEngine engineEvent
  rw [hclose]
  cases htake : takeDue (newCycle order s) with
  | false => exact .inl rfl
  | true =>
    refine .inr ⟨fun hnone => ?_, by simp [htake]⟩
    have hnext : nextSlot? (newCycle order s) = (newCycle order s).plan.active.head? := by
      unfold nextSlot?
      rw [newCycle_nextSlot, List.head?_eq_getElem?]
    unfold takeDue at htake
    rw [hnext, newCycle_offset] at htake
    split at htake
    · rename_i a ha
      exact hnone a ha (by simpa using htake)
    · cases htake

/-- The transmission that stands after a wrap has stood before it, or began at it (R14). -/
theorem newCycle_txD_none {order : List WrapAct} {s : State} (h : (newCycle order s).txD = none) : s.txD = none := by
  have hblocks : KeepsLines (beginCycle (wrapPlan s) s) (wrapBlocks order s) :=
    (foldl_wrapAct_keepsLines s (wrapPlan s) (fullOrder order defaultOrder) _).trans
      (keepsLines_of_eq (by rw [wrapBlocks_eq]; rfl))
  have hkeeps := hblocks.trans ((arbiterD_keepsLines _).trans (decideU_keepsLines s _))
  cases ht : s.txD with
  | none => rfl
  | some x => exact absurd ((hkeeps.txD x ht).symm.trans h) (by simp)

end Sys2Proof.Wraps
end

section
/-! PROOF. The ageing of the held frames at a wrap: each entry is aged once, a freed buffer stays FREE, a slot at OPEN 0 may
release one head; the settling of the obligation on it (R19, R23, R44, R45, R87, R89, R92). -/

namespace Sys2Proof.Wraps

open Sys2Proof.Machine Sys2Proof.Safety Sys2Proof.Claims Sys2Proof.Link Sys2Proof.Invariants

/-! ### One entry aged (R44) -/

theorem aged_eq_older : aged = older := by
  funext r
  unfold aged older
  congr 1
  split <;> omega

theorem isStale_eq (limit : Nat) (r : Held) : isStale limit r = !stays limit r := by
  rw [Bool.eq_iff_iff]
  simp [isStale, stays]

theorem keptQueue_eq (x : Machine.Stream) :
    ((x.queue.map aged).filter fun r => !isStale x.ageLimit r) = agedQueue x := by
  simp [isStale_eq, aged_eq_older, agedQueue]

theorem staleAt_length (x : Machine.Stream) : (staleAt x).length = x.queue.length - (agedQueue x).length := by
  have hsplit := (List.filter_append_perm (isStale x.ageLimit) (x.queue.map aged)).length_eq
  rw [List.length_append, keptQueue_eq, List.length_map] at hsplit
  unfold staleAt
  omega

/-- An entry after its ageing at a wrap; an invalid one is not aged. -/
def agedEntry (x : Machine.Stream) : Machine.Stream :=
  if x.valid then
    { x with
      queue := agedQueue x
      counters :=
        { x.counters with
          stale := x.counters.stale + BitVec.ofNat 32 (x.queue.length - (agedQueue x).length) } }
  else x

/-- The frames past AGE_LIMIT have left entry `i`, counted and freed; nothing is reported yet. -/
def agedSilently (i : StreamId) (s : State) : State :=
  countStream i (fun c => { c with stale := c.stale + BitVec.ofNat 32 (staleAt (s.stream i)).length })
    (freeBufs ((staleAt (s.stream i)).map Held.buffer) (setQueue i (agedQueue (s.stream i)) s))

theorem ageStream_of_valid {i : StreamId} {s : State} (h : (s.stream i).valid = true)
    (reports : Nat → State → State) :
    ageStream i reports s = withdrawIfEmpty i (reports (staleAt (s.stream i)).length (agedSilently i s)) := by
  unfold ageStream agedSilently
  rw [← keptQueue_eq]
  exact if_pos h

theorem ageStream_of_invalid {i : StreamId} {s : State} (h : (s.stream i).valid = false)
    (reports : Nat → State → State) : ageStream i reports s = reports 0 s := by
  unfold ageStream
  dsimp only
  rw [h]
  rfl

theorem agedSilently_stream {i : StreamId} {s : State} (h : (s.stream i).valid = true) (j : StreamId) :
    (agedSilently i s).stream j = if i = j then agedEntry (s.stream i) else s.stream j := by
  have hqueue : ∀ (bs : List BufId) (j : StreamId), (freeBufs bs (setQueue i (agedQueue (s.stream i)) s)).stream j =
      if i = j then { s.stream i with queue := agedQueue (s.stream i) } else s.stream j := by
    intro bs j
    rw [freeBufs_eq]
    exact setStream_stream i j _ s
  unfold agedSilently countStream
  rw [setStream_stream, hqueue, hqueue, if_pos rfl, staleAt_length]
  unfold agedEntry
  rw [if_pos h]
  split <;> rfl

/-- The ageing of entry `i` changes that entry alone. -/
theorem ageStream_stream (i : StreamId) {reports : Nat → State → State}
    (h : ∀ n t, (reports n t).streams = t.streams) (s : State) (j : StreamId) :
    (ageStream i reports s).stream j = if i = j then agedEntry (s.stream i) else s.stream j := by
  have hreports : ∀ n t, (reports n t).stream j = t.stream j := fun n t =>
    congrArg (fun v : Vector Machine.Stream 32 => v[j]) (h n t)
  cases hv : (s.stream i).valid with
  | true => rw [ageStream_of_valid hv, withdrawIfEmpty_stream, hreports, agedSilently_stream hv]
  | false =>
    rw [ageStream_of_invalid hv, hreports]
    unfold agedEntry
    rw [hv]
    split
    · rename_i hij; rw [hij]; rfl
    · rfl

theorem streams_reportAmid (i : StreamId) (k : Nat) (before : State) (acts grants : Bool) (n : Nat) (s : State) :
    (reportAmid i k (amidAgeing before acts grants) n s).streams = s.streams :=
  reportAmid_keeps (I := fun t => t.streams = s.streams) (fun o h => by rw [report_eq]; exact h) (fun h => h)
    (fun h => by rw [arbiterU_eq]; exact h) i k before acts grants n rfl

/-! ### One entry through the blocks' actions (R44, R56, R92) -/

/-- An entry with its MISSED count left out, which the close of a window raises (R92). -/
def withoutMissed (x : Machine.Stream) : Machine.Stream := { x with counters := { x.counters with missed := 0 } }

theorem withoutMissed_agedEntry (x : Machine.Stream) : withoutMissed (agedEntry x) = agedEntry (withoutMissed x) := by
  unfold agedEntry
  show withoutMissed (if x.valid then _ else _) = if x.valid then _ else _
  split <;> rfl

theorem withoutMissed_closeWindow (s : State) (i : StreamId) :
    withoutMissed ((closeWindow s).stream i) = withoutMissed (s.stream i) := by
  have hmissed : withoutMissed ((missedCheck s).stream i) = withoutMissed (s.stream i) := by
    unfold missedCheck
    split
    · split
      · rw [report_stream]
        unfold countStream
        rw [setStream_stream]
        split
        · rename_i hi; rw [hi]; rfl
        · rfl
      · rfl
    · rfl
  have hend : (closeWindow s).streams = (missedCheck s).streams := by
    unfold closeWindow
    rcases endWindow_eq (missedCheck s) with ⟨-, he⟩ | ⟨w, -, he⟩ <;> rw [he]
  exact (congrArg (fun v : Vector Machine.Stream 32 => withoutMissed v[i]) hend).trans hmissed

/-- The element of an order that ages entry `i` ages it, whatever else it does. -/
theorem wrapAct_stream_of_ages {a : WrapAct} {i : StreamId} (ha : .age i ∈ a.blocks) (before : State) (k : WrapPlan)
    (s : State) : (wrapAct before k a s).stream i = agedEntry (s.stream i) := by
  cases a with
  | age j =>
    have hij : i = j := by simpa [WrapAct.blocks] using ha
    subst hij
    exact (ageStream_stream i (fun n t => by rw [reportTimes_eq]) s i).trans (if_pos rfl)
  | ageAmid j n acts grants =>
    have hij : i = j := by cases acts <;> simpa [WrapAct.blocks] using ha
    subst hij
    exact (ageStream_stream i (streams_reportAmid i n before acts grants) s i).trans (if_pos rfl)
  | _ => simp [WrapAct.blocks] at ha

/-- Every other element leaves the entry, its MISSED count apart. -/
theorem wrapAct_stream_of_not_ages {a : WrapAct} {i : StreamId} (ha : .age i ∉ a.blocks) (before : State)
    (k : WrapPlan) (s : State) :
    withoutMissed ((wrapAct before k a s).stream i) = withoutMissed (s.stream i) := by
  cases a with
  | sync =>
    show withoutMissed ((syncAct k s).stream i) = _
    unfold syncAct
    dsimp only
    rw [gateEnds_eq, reportSync_eq]
    rfl
  | plan => show withoutMissed ((planAct k s).stream i) = _; rw [planAct_eq]; rfl
  | close => exact withoutMissed_closeWindow s i
  | age j =>
    have hij : ¬ j = i := by simpa [WrapAct.blocks, eq_comm] using ha
    exact congrArg withoutMissed
      ((ageStream_stream j (fun n t => by rw [reportTimes_eq]) s i).trans (if_neg hij))
  | notes => rfl
  | grantU =>
    show withoutMissed ((decideU before s).stream i) = _
    rcases decideU_cases before s with ⟨-, he⟩ | ⟨-, he⟩ <;> rw [he]
    rw [arbiterU_eq]
    rfl
  | ageAmid j n acts grants =>
    have hij : ¬ j = i := by cases acts <;> simpa [WrapAct.blocks, eq_comm] using ha
    exact congrArg withoutMissed
      ((ageStream_stream j (streams_reportAmid j n before acts grants) s i).trans (if_neg hij))
  | unit => rfl

/-- The blocks' actions age every entry once. -/
theorem newCycle_stream (order : List WrapAct) (s : State) (i : StreamId) :
    withoutMissed ((newCycle order s).stream i) = agedEntry (withoutMissed (s.stream i)) := by
  obtain ⟨pre, a, post, hsplit, ha, hpre, hpost⟩ := fullOrder_split order (b := .age i) (by simp [defaultOrder])
  have hbefore : withoutMissed ((acted s (wrapPlan s) pre (beginCycle (wrapPlan s) s)).stream i) =
      withoutMissed (s.stream i) :=
    acted_keeps (I := fun t => withoutMissed (t.stream i) = withoutMissed (s.stream i))
      (fun x hx _ ht => (wrapAct_stream_of_not_ages (hpre x hx) s _ _).trans ht) rfl
  have hafter := acted_keeps
    (I := fun t => withoutMissed (t.stream i) = agedEntry (withoutMissed (s.stream i)))
    (fun x hx _ ht => (wrapAct_stream_of_not_ages (hpost x hx) s (wrapPlan s) _).trans ht)
    (s := wrapAct s (wrapPlan s) a (acted s (wrapPlan s) pre (beginCycle (wrapPlan s) s)))
    (by rw [wrapAct_stream_of_ages ha, withoutMissed_agedEntry, hbefore])
  rw [newCycle_eq, wrapBlocks_eq, hsplit, acted_append]
  exact hafter

/-! ### A freed buffer stays FREE (R19, R23) -/

/-- The pool is owned, and buffer `c` is FREE and holds no frame. -/
structure FreeAt (c : BufId) (s : State) : Prop where
  owned : OwnedBut none s
  free : s.pool[c] = {}

theorem freeAt_of_view {c : BufId} {s t : State} (h : FreeAt c s) (hv : poolView t = poolView s) : FreeAt c t := by
  have hpool : t.pool = s.pool := congrArg Prod.fst hv
  exact ⟨ownedBut_of_view h.owned hv, by rw [hpool]; exact h.free⟩

/-- A FREE buffer is in no queue. -/
theorem queuedCount_of_free {c : BufId} {s : State} (h : FreeAt c s) : queuedCount s c = 0 := by
  rw [(h.owned.owned c (by simp)).queued, h.free]
  rfl

/-- A grant reads out a queued buffer, and leaves the FREE ones. -/
theorem sendingFrom_free {c b : BufId} {s : State} (h : FreeAt c s) (hb : 1 ≤ queuedCount s b) :
    (sendingFrom s b)[c] = {} := by
  have hne : b ≠ c := by
    rintro rfl
    rw [queuedCount_of_free h] at hb
    exact absurd hb (by decide)
  exact (setBuf_getElem b c _ s).trans ((if_neg hne).trans h.free)

theorem freeAt_arbiterU {c : BufId} {s : State} (h : FreeAt c s) : FreeAt c (arbiterU s) := by
  refine ⟨owned_arbiterU h.owned, ?_⟩
  rcases arbiterU_cases s with he | ⟨-, ⟨b, q, hb, he⟩ | ⟨r, he⟩ | ⟨r, -, he⟩⟩ <;> rw [he]
  · exact h.free
  · rw [grantBack_eq]
    exact sendingFrom_free h (by rw [queuedCount, hb, List.count_cons_self]; omega)
  · exact h.free
  · exact h.free

theorem freeAt_arbiterD {c : BufId} {s : State} (h : FreeAt c s) : FreeAt c (arbiterD s) := by
  refine ⟨owned_arbiterD h.owned, ?_⟩
  rcases arbiterD_cases s with he | ⟨-, ⟨m, he⟩ | ⟨w, x, q, -, -, hq, he⟩ | ⟨b, q, hb, he⟩⟩ <;> rw [he]
  · exact h.free
  · exact h.free
  · rw [grantRelease_eq]
    refine sendingFrom_free h ?_
    have hheld : 1 ≤ heldBy (s.stream w.stream) x.buffer := by simp [heldBy, hq]
    have hsum : heldBy (s.stream w.stream) x.buffer ≤ heldCount s x.buffer :=
      Finset.single_le_sum (f := fun i => heldBy (s.stream i) x.buffer) (fun _ _ => Nat.zero_le _)
        (Finset.mem_univ w.stream)
    unfold queuedCount
    omega
  · rw [grantPass_eq]
    exact sendingFrom_free h (by rw [queuedCount, hb, List.count_cons_self]; omega)

theorem freeAt_decideU {c : BufId} {s : State} (before : State) (h : FreeAt c s) : FreeAt c (decideU before s) := by
  rcases decideU_cases before s with ⟨-, he⟩ | ⟨-, he⟩ <;> rw [he]
  · exact freeAt_arbiterU h
  · exact h

theorem freeAt_report {c : BufId} {s : State} (o : Occurrence) (h : FreeAt c s) : FreeAt c (report o s) :=
  freeAt_of_view h (poolView_report o s)

theorem freeAt_reportAmid {c : BufId} {s : State} (i : StreamId) (k : Nat) (before : State) (acts grants : Bool)
    (n : Nat) (h : FreeAt c s) : FreeAt c (reportAmid i k (amidAgeing before acts grants) n s) :=
  reportAmid_keeps (I := FreeAt c) freeAt_report (fun hs => freeAt_of_view hs rfl) freeAt_arbiterU i k before acts
    grants n h

/-- An ageing frees the buffers of the frames it removes, and leaves the FREE ones (R44). -/
theorem freeAt_ageStream {c : BufId} {s : State} (i : StreamId) {reports : Nat → State → State}
    (hr : ∀ n {t}, FreeAt c t → FreeAt c (reports n t)) (howned : OwnedBut none s)
    (hc : s.pool[c] = {} ∨ (s.stream i).valid = true ∧ c ∈ (staleAt (s.stream i)).map Held.buffer) :
    FreeAt c (ageStream i reports s) := by
  cases hv : (s.stream i).valid with
  | false =>
    rw [ageStream_of_invalid hv]
    exact hr 0 ⟨howned, hc.resolve_right fun h => by rw [hv] at h; cases h.1⟩
  | true =>
    have hfreed : FreeAt c (agedSilently i s) := by
      refine ⟨?_, ?_⟩
      · unfold agedSilently
        rw [← keptQueue_eq]
        exact ownedBut_countStream (ownedBut_freeHeld howned (heldBy_ageing (s.stream i))) i _
      · have hpool := freeBufs_getElem ((staleAt (s.stream i)).map Held.buffer) (setQueue i (agedQueue (s.stream i)) s) c
        refine hpool.trans ?_
        split
        · rfl
        · rename_i hnot
          exact hc.resolve_right fun h => hnot h.2
    rw [ageStream_of_valid hv]
    exact freeAt_of_view (hr _ hfreed) (poolView_withdrawIfEmpty i _)

/-- Every block's action leaves the FREE buffers. -/
theorem freeAt_wrapAct {c : BufId} {s : State} (before : State) (k : WrapPlan) (a : WrapAct) (h : FreeAt c s) :
    FreeAt c (wrapAct before k a s) := by
  cases a with
  | sync => exact freeAt_of_view h ((poolView_gateEnds s _).trans (poolView_reportSync _ _))
  | plan => show FreeAt c (planAct k s); rw [planAct_eq]; exact freeAt_of_view h rfl
  | close => exact freeAt_of_view h (poolView_closeWindow s)
  | age i => exact freeAt_ageStream i (fun n _ ht => reportTimes_keeps freeAt_report n _ ht) h.owned (.inl h.free)
  | notes => exact freeAt_of_view h rfl
  | grantU => exact freeAt_decideU before h
  | ageAmid i n acts grants =>
    exact freeAt_ageStream i (fun m _ ht => freeAt_reportAmid i n before acts grants m ht) h.owned (.inl h.free)
  | unit => exact h

/-- The element of an order that ages entry `i` frees the buffers of the frames that leave it. -/
theorem freeAt_wrapAct_of_ages {a : WrapAct} {i : StreamId} (ha : .age i ∈ a.blocks) {c : BufId} {s : State}
    (before : State) (k : WrapPlan) (howned : OwnedBut none s)
    (hc : (s.stream i).valid = true ∧ c ∈ (staleAt (s.stream i)).map Held.buffer) :
    FreeAt c (wrapAct before k a s) := by
  cases a with
  | age j =>
    obtain rfl : i = j := by simpa [WrapAct.blocks] using ha
    exact freeAt_ageStream i (fun n _ ht => reportTimes_keeps freeAt_report n _ ht) howned (.inr hc)
  | ageAmid j n acts grants =>
    obtain rfl : i = j := by cases acts <;> simpa [WrapAct.blocks] using ha
    exact freeAt_ageStream i (fun m _ ht => freeAt_reportAmid i n before acts grants m ht) howned (.inr hc)
  | _ => simp [WrapAct.blocks] at ha

/-- The buffers of the frames that leave an entry at a wrap are FREE as the new cycle begins. -/
theorem freeAt_newCycle (order : List WrapAct) {s : State} {i : StreamId} {c : BufId} (howned : OwnedBut none s)
    (hc : (s.stream i).valid = true ∧ c ∈ (staleAt (s.stream i)).map Held.buffer) : FreeAt c (newCycle order s) := by
  obtain ⟨pre, a, post, hsplit, ha, hpre, -⟩ := fullOrder_split order (b := .age i) (by simp [defaultOrder])
  have hbefore : OwnedBut none (acted s (wrapPlan s) pre (beginCycle (wrapPlan s) s)) ∧
      withoutMissed ((acted s (wrapPlan s) pre (beginCycle (wrapPlan s) s)).stream i) = withoutMissed (s.stream i) :=
    acted_keeps (I := fun t => OwnedBut none t ∧ withoutMissed (t.stream i) = withoutMissed (s.stream i))
      (fun x hx _ ht => ⟨owned_wrapAct s _ x ht.1, (wrapAct_stream_of_not_ages (hpre x hx) s _ _).trans ht.2⟩)
      ⟨ownedBut_of_view howned rfl, rfl⟩
  obtain ⟨hownedPre, hentry⟩ := hbefore
  have hvalid := congrArg Stream.valid hentry
  have hstale := congrArg staleAt hentry
  have hfreed : FreeAt c (acted s (wrapPlan s) (fullOrder order defaultOrder) (beginCycle (wrapPlan s) s)) := by
    rw [hsplit, acted_append]
    exact acted_keeps (I := FreeAt c) (fun x _ _ ht => freeAt_wrapAct s _ x ht)
      (freeAt_wrapAct_of_ages ha s _ hownedPre ⟨hvalid.trans hc.1, hstale ▸ hc.2⟩)
  have hblocks : FreeAt c (wrapBlocks order s) := freeAt_of_view hfreed (by rw [wrapBlocks_eq]; rfl)
  exact freeAt_decideU s (freeAt_arbiterD hblocks)

theorem freeAt_conclude {c : BufId} {s : State} (before : State) (h : FreeAt c s) : FreeAt c (conclude before s) := by
  have hD : FreeAt c (if invokesD before s then arbiterD s else s) := by
    split
    · exact freeAt_arbiterD h
    · exact h
  unfold conclude
  dsimp only
  split
  · exact freeAt_arbiterU hD
  · exact hD

theorem freeAt_wrapEvent (order : List WrapAct) {s : State} {i : StreamId} {c : BufId} (howned : OwnedBut none s)
    (hc : (s.stream i).valid = true ∧ c ∈ (staleAt (s.stream i)).map Held.buffer) : FreeAt c (wrapEvent order s) := by
  have hcycle := freeAt_newCycle order howned hc
  rcases wrapEvent_cases order s with he | ⟨-, he⟩ <;> rw [he]
  · exact hcycle
  · exact freeAt_conclude _ (freeAt_of_view hcycle (by rw [takeSlot_eq]; rfl))

/-! ### The take at OPEN 0 (R87, R89) -/

/-- A take, and the decisions that follow it, leave the table, or release the head of one entry on an IDLE port D. -/
theorem conclude_takeSlot_cases (s : State) :
    (conclude s (takeSlot s)).streams = s.streams ∨
    s.txD = none ∧ ∃ (i : StreamId) (h : Held) (q : List Held) (bytes : FrameBytes), (s.stream i).queue = h :: q ∧
      (conclude s (takeSlot s)).streams = (setQueue i q s).streams ∧
      (conclude s (takeSlot s)).txD = begun (.release h.buffer (some i)) bytes := by
  have htake : (takeSlot s).streams = s.streams ∧ (takeSlot s).txD = s.txD := by rw [takeSlot_eq]; exact ⟨rfl, rfl⟩
  have hU : ∀ t : State, (if invokesU s (takeSlot s) then arbiterU t else t).streams = t.streams ∧
      (if invokesU s (takeSlot s) then arbiterU t else t).txD = t.txD := by
    intro t
    split
    · rw [arbiterU_eq]; exact ⟨rfl, rfl⟩
    · exact ⟨rfl, rfl⟩
  obtain ⟨hstreams, htxD⟩ := htake
  unfold conclude
  dsimp only
  rw [(hU _).1, (hU _).2]
  split
  · rcases arbiterD_cases (takeSlot s) with he | ⟨hidle, ⟨m, he⟩ | ⟨w, h, q, -, -, hq, he⟩ | ⟨b, q, -, he⟩⟩ <;> rw [he]
    · exact .inl hstreams
    · exact .inl hstreams
    · have hentry : (takeSlot s).stream w.stream = s.stream w.stream :=
        congrArg (fun v : Vector Machine.Stream 32 => v[w.stream]) hstreams
      rw [grantRelease_eq, hentry, hstreams]
      rw [hentry] at hq
      exact .inr ⟨htxD.symm.trans hidle, w.stream, h, q, _, hq, rfl, rfl⟩
    · exact .inl hstreams
  · exact .inl hstreams

/-- What the take leaves of the plan's slots. -/
theorem noneAtZero_of_view {s t : State} (hv : planView t = planView s) (h : NoneAtZero t) : NoneAtZero s := by
  simp only [planView, Prod.mk.injEq] at hv
  obtain ⟨-, hactive, -, -⟩ := hv
  have hhead := congrArg List.head? hactive
  rw [List.head?_map, List.head?_map] at hhead
  intro a ha
  rw [ha] at hhead
  obtain ⟨b, hb, hab⟩ := Option.map_eq_some_iff.1 hhead
  rw [← hab]
  exact h b hb

/-! ### The entry after the wrap -/

/-- An entry that has been aged, its MISSED count apart: what of it has changed, and how. -/
theorem agedEntry_fields {x e : Machine.Stream} (h : withoutMissed e = agedEntry (withoutMissed x)) :
    e = { x with
          queue := e.queue
          counters := { x.counters with stale := e.counters.stale, missed := e.counters.missed } } ∧
    (x.valid = false → e.queue = x.queue ∧ e.counters.stale = x.counters.stale) ∧
    (x.valid = true → e.queue = agedQueue x ∧
      e.counters.stale = x.counters.stale + BitVec.ofNat 32 (x.queue.length - (agedQueue x).length)) := by
  have he : e = { withoutMissed e with
      counters := { (withoutMissed e).counters with missed := e.counters.missed } } := rfl
  rw [h] at he
  generalize e.counters.missed = m at he
  subst he
  unfold agedEntry
  by_cases hv : x.valid = true
  · rw [if_pos (show (withoutMissed x).valid = true from hv)]
    exact ⟨rfl, fun hn => absurd (hv.symm.trans hn) (by decide), fun _ => ⟨rfl, rfl⟩⟩
  · rw [if_neg (show ¬ (withoutMissed x).valid = true from hv)]
    exact ⟨rfl, fun _ => ⟨rfl, rfl⟩, fun hn => absurd hn hv⟩

/-- An entry after a wrap: aged, and its head released where a slot at OPEN 0 took port D (R44, R87, R89). -/
theorem wrapEvent_stream (order : List WrapAct) (s : State) (i : StreamId) :
    withoutMissed ((wrapEvent order s).stream i) = agedEntry (withoutMissed (s.stream i)) ∨
    ¬ NoneAtZero (wrapEvent order s) ∧ s.txD = none ∧ ∃ (e : Machine.Stream) (h : Held) (q : List Held)
      (bytes : FrameBytes), withoutMissed e = agedEntry (withoutMissed (s.stream i)) ∧ e.queue = h :: q ∧
        (wrapEvent order s).stream i = { e with queue := q } ∧
        (wrapEvent order s).txD = begun (.release h.buffer (some i)) bytes := by
  have hentry := newCycle_stream order s i
  have hsame : (wrapEvent order s).streams = (newCycle order s).streams →
      withoutMissed ((wrapEvent order s).stream i) = agedEntry (withoutMissed (s.stream i)) := fun he =>
    (congrArg (fun v : Vector Machine.Stream 32 => withoutMissed v[i]) he).trans hentry
  rcases wrapEvent_cases order s with he | ⟨hzero, he⟩
  · exact .inl (hsame (by rw [he]))
  · have hplan : NoneAtZero (wrapEvent order s) → NoneAtZero (newCycle order s) :=
      noneAtZero_of_view (by rw [he, conclude_eq]; exact planView_takeSlot _)
    rcases conclude_takeSlot_cases (newCycle order s) with hs | ⟨hidle, j, h, q, bytes, hq, hs, htx⟩
    · exact .inl (hsame (by rw [he]; exact hs))
    · by_cases hij : j = i
      · subst hij
        refine .inr ⟨fun hn => hzero (hplan hn), newCycle_txD_none hidle, _, h, q, bytes, hentry, hq, ?_, ?_⟩
        · rw [he]
          exact (congrArg (fun v : Vector Machine.Stream 32 => v[j]) hs).trans (setQueue_stream_self j q _)
        · rw [he]; exact htx
      · refine .inl ?_
        rw [he]
        refine (congrArg (fun v : Vector Machine.Stream 32 => withoutMissed v[i]) hs).trans ?_
        exact (congrArg withoutMissed ((setStream_stream j i _ _).trans (if_neg hij))).trans hentry

/-- The frame past AGE_LIMIT after this wrap's ageing is one of those that leave. -/
theorem older_mem_staleAt {x : Machine.Stream} {r : Held} (hr : r ∈ x.queue)
    (hs : stays x.ageLimit (older r) = false) : older r ∈ staleAt x := by
  unfold staleAt
  rw [aged_eq_older]
  exact List.mem_filter.2 ⟨List.mem_map_of_mem hr, by rw [isStale_eq, hs]; rfl⟩

theorem staleMet_of_entry {s : State} {i : StreamId} (hv : (s.stream i).valid = true) {r : Held}
    (hr : r ∈ (s.stream i).queue) (hs : stays (s.stream i).ageLimit (older r) = false) : staleMet s = true := by
  have hmem := older_mem_staleAt hr hs
  refine List.any_eq_true.2 ⟨i, List.mem_finRange i, ?_⟩
  rw [hv, Bool.true_and, Bool.not_eq_true', List.isEmpty_eq_false_iff]
  exact List.ne_nil_of_mem hmem

/-- Settles O32: each entry is aged once, whatever the order of the blocks; of the arbiters' decisions only the one after
a take at OPEN 0 finds a window. -/
theorem wrapAgesHeldFrames : Obligations.WrapAgesHeldFrames := by
  intro s order c hat hpool hc
  have hreach := reachWrap_of_atWrap hat
  have hexec : exec c s = .next (wrapEvent order (reachWrap s)) := by
    rcases hc with rfl | ⟨rfl, i, hv, r, hr, hs⟩
    · exact congrArg Host.Outcome.next (wrapWhen_of_atWrap hat (cond := fun _ => true) rfl)
    · refine congrArg Host.Outcome.next (wrapWhen_of_atWrap hat (cond := staleMet) ?_)
      rw [hreach]
      exact staleMet_of_entry (s := s) hv hr hs
  have hentries : ∀ i, (reachWrap s).stream i = s.stream i := fun i => by rw [hreach]; rfl
  have hkept : PoolKept (reachWrap s) :=
    poolKept_kept.events.reachWrap ((poolLaws_iff_of_running hat.running).1 hpool)
  refine ⟨_, hexec, fun i => ?_⟩
  dsimp only
  have hfreed : (s.stream i).valid = true → ∀ r ∈ (s.stream i).queue,
      stays (s.stream i).ageLimit (older r) = false → (wrapEvent order (reachWrap s)).pool[r.buffer] = {} := by
    intro hv r hr hs
    refine (freeAt_wrapEvent order (i := i) hkept.2 ⟨?_, ?_⟩).free <;> rw [hentries]
    · exact hv
    · exact List.mem_map.2 ⟨older r, older_mem_staleAt hr hs, rfl⟩
  rcases wrapEvent_stream order (reachWrap s) i with hy | ⟨hzero, hidle, e, h, q, bytes, hentry, hq, hy, htx⟩
  · rw [hentries] at hy
    obtain ⟨hfields, hinvalid, hvalid⟩ := agedEntry_fields hy
    refine ⟨hfields, hinvalid, fun hv => ?_⟩
    obtain ⟨hqueue, hstale⟩ := hvalid hv
    exact ⟨.inl hqueue, hstale, hfreed hv⟩
  · rw [hentries] at hentry
    obtain ⟨hfields, hinvalid, hvalid⟩ := agedEntry_fields hentry
    rw [hy]
    refine ⟨?_, fun hv => ?_, fun hv => ?_⟩
    · rw [hfields]
    · have hempty := ((hpool.1 i).invalidEmpty hv).1
      rw [← (hinvalid hv).1, hq] at hempty
      cases hempty
    · obtain ⟨hqueue, hstale⟩ := hvalid hv
      exact ⟨.inr ⟨hzero, reachWrap_txD_none hidle, h, bytes, hqueue.symm.trans hq, htx⟩, hstale, hfreed hv⟩

end Sys2Proof.Wraps
end

section
/-! PROOF. The sync unit and the cycle timer after a wrap (R55, R56, R62 to R74). -/

namespace Sys2Proof.Cycles

open Sys2Proof.Machine Sys2Proof.Safety Sys2Proof.Claims Sys2Proof.Link Sys2Proof.Invariants Sys2Proof.Wraps

/-! ### The sync unit's own action (R62 to R74) -/

theorem sync_arbiterU (s : State) : (arbiterU s).sync = s.sync := by rw [arbiterU_eq]

theorem sync_ageStream (i : StreamId) {reports : Nat → State → State} (h : ∀ n t, (reports n t).sync = t.sync)
    (s : State) : (ageStream i reports s).sync = s.sync := by
  rcases ageStream_cases i reports s with he | ⟨-, n, c, he⟩ <;> rw [he]
  · exact h 0 s
  · rw [withdrawIfEmpty_eq, h, freeBufs_eq]
    rfl

/-- Only the sync unit's own action at a wrap changes the sync unit (R62). -/
theorem sync_wrapAct (before : State) (k : WrapPlan) {a : WrapAct} (ha : .sync ∉ a.blocks) (s : State) :
    (wrapAct before k a s).sync = s.sync := by
  cases a with
  | sync => exact absurd List.mem_cons_self ha
  | plan => show (planAct k s).sync = _; rw [planAct_eq]
  | close => show (closeWindow s).sync = _; rw [closeWindow_eq]
  | age i => exact sync_ageStream i (fun n t => by rw [reportTimes_eq]) s
  | notes => rfl
  | grantU =>
    show (decideU before s).sync = _
    rcases decideU_cases before s with ⟨-, he⟩ | ⟨-, he⟩ <;> rw [he]
    exact sync_arbiterU s
  | ageAmid i k acts grants =>
    refine sync_ageStream i (fun n t => ?_) s
    exact reportAmid_keeps (I := fun u => u.sync = t.sync) (fun o hu => by rw [report_eq]; exact hu) (fun hu => hu)
      (fun hu => (sync_arbiterU _).trans hu) i k before acts grants n rfl
  | unit => rfl

theorem sync_syncAct (k : WrapPlan) (s : State) :
    (syncAct k s).sync = syncAfterWrap s.sync k.ending k.evaluation k.length := by
  unfold syncAct
  dsimp only
  rw [gateEnds_eq, reportSync_eq]

theorem mem_blocks_sync {a : WrapAct} (h : .sync ∈ a.blocks) : a = .sync := by
  cases a with
  | sync => rfl
  | ageAmid i n acts grants => cases acts <;> simp [WrapAct.blocks] at h
  | _ => simp [WrapAct.blocks] at h

/-! ### The sync unit and the timer after the wrap -/

/-- The sync unit acts once at a wrap, on what it held before it, whatever the order of the blocks (R56). -/
theorem sync_wrapBlocks (order : List WrapAct) (s : State) :
    (wrapBlocks order s).sync =
      syncAfterWrap s.sync (ending s) (evaluate s.sync (ending s)) (wrapPlan s).length := by
  obtain ⟨pre, a, post, hsplit, ha, hpre, hpost⟩ := fullOrder_split order (b := .sync) (by decide)
  obtain rfl := mem_blocks_sync ha
  have hkeeps : ∀ {acts : List WrapAct}, (∀ x ∈ acts, .sync ∉ x.blocks) → ∀ t : State,
      (acted s (wrapPlan s) acts t).sync = t.sync := fun h t =>
    acted_keeps (I := fun u => u.sync = t.sync) (fun x hx u hu => (sync_wrapAct s _ (h x hx) u).trans hu) rfl
  rw [wrapBlocks_eq, hsplit, acted_append]
  show (acted s (wrapPlan s) post (syncAct (wrapPlan s) _)).sync = _
  rw [hkeeps hpost, sync_syncAct, hkeeps hpre]
  rfl

theorem sync_wrapEvent (order : List WrapAct) (s : State) :
    (wrapEvent order s).sync =
      syncAfterWrap s.sync (ending s) (evaluate s.sync (ending s)) (wrapPlan s).length := by
  have hnew : (newCycle order s).sync = (wrapBlocks order s).sync := by rw [newCycle_eq]
  rw [← sync_wrapBlocks, ← hnew]
  rcases wrapEvent_cases order s with he | ⟨-, he⟩ <;> rw [he]
  rw [conclude_eq, takeSlot_eq]

/-- The timer begins the new cycle with the wrap's number and length, at offset 0 (R56). -/
theorem timer_wrapEvent (order : List WrapAct) (s : State) :
    (wrapEvent order s).timer = { cycle := (wrapPlan s).number, offset := 0, cl := (wrapPlan s).length } :=
  (wrapEvent_keepsLines order s).timer

end Sys2Proof.Cycles
end

section
/-! PROOF. What a command that is no step of the reference clock can do (R3, R5, R15, R58, R84, R93, R129, R172). -/

namespace Sys2Proof.Cycles

open Sys2Proof.Machine Sys2Proof.Safety Sys2Proof.Claims Sys2Proof.Link Sys2Proof.Invariants Sys2Proof.Wraps

/-- The request that a command takes, if it is the step of a request (R129, R130, R135 to R137). -/
def requestRow : Instr → Option Row
  | .requestReplay => some .replay
  | .broadcastIgnore => some .ignore
  | .unknownRequest => some .unknown
  | .ident => some (.op .ident)
  | .streamWrite => some (.op .streamWrite)
  | .streamDelete => some (.op .streamDelete)
  | .streamLock => some (.op .streamLock)
  | .streamRead => some (.op .streamRead)
  | .streamPurge => some (.op .streamPurge)
  | .slotAdd => some (.op .slotAdd)
  | .slotDrop => some (.op .slotDrop)
  | .slotRead => some (.op .slotRead)
  | .stageEmpty => some (.op .stageEmpty)
  | .stageFromActive => some (.op .stageFromActive)
  | .cycleStage => some (.op .cycleStage)
  | .switch => some (.op .switch)
  | .withdraw => some (.op .withdraw)
  | .hold => some (.op .hold)
  | .resume => some (.op .resume)
  | .syncConfig => some (.op .syncConfig)
  | .syncRead => some (.op .syncRead)
  | .traceRead => some (.op .traceRead)
  | .countRead => some (.op .countRead)
  | .noteAck => some (.op .noteAck)
  | .noteConfig => some (.op .noteConfig)
  | .passConfig => some (.op .passConfig)
  | .restart => some (.op .restart)
  | _ => none

theorem exec_of_requestRow {c : Instr} {r : Row} (h : requestRow c = some r) (s : State) :
    exec c s = .next (takeRequest r (runOf r) s) := by
  cases c <;> cases h <;> rfl

theorem requestRow_of_requestSteps : ∀ c ∈ requestSteps, (requestRow c).isSome = true := by decide

/-- What a command leaves that is no step of the reference clock. -/
inductive Unclocked (c : Instr) (s : State) : State → Prop
  | idle : Unclocked c s s
  | powerOn {cause : PowerCause} {t : State} (taken : execPowerOn cause s = .next t) : Unclocked c s t
  | powerOnComplete (straps : NodeAddr) (linkU linkD : Link) (dFirst : Bool) :
      Unclocked c s (firstReports linkU linkD dFirst (powerOnValues straps s))
  | link (p : Port) (l : Link) : Unclocked c s (conclude s (changeLink p l s))
  | byte (p : Port) (b : Byte) : Unclocked c s (byteEvent p b s)
  | header (p : Port) (b : Byte) : Unclocked c s (conclude s (headerEvent p b s))
  | frameEnd (p : Port) (b : Byte) : Unclocked c s (conclude s (endEvent p b s))
  | cycFall : Unclocked c s (dropCyc s)
  | engine : Unclocked c s (finishEngine s)
  | request {f : FrameBytes} {r : Row} (own : requestRow c = some r) (next : nextRequest s = some f)
      (row : rowOf s.mgmt f = r) : Unclocked c s (conclude s (runOf r f (takeHead s)))

theorem unclocked_ite {c : Instr} {s u : State} {p : Prop} [Decidable p] (h : Unclocked c s u) :
    Unclocked c s (if p then u else s) := by
  split
  · exact h
  · exact .idle

theorem unclocked_of_requestRow {c : Instr} {r : Row} (h : requestRow c = some r) (s : State) :
    Unclocked c s (takeRequest r (runOf r) s) := by
  rcases takeRequest_cases r (runOf r) s with he | ⟨f, hf, hr, he⟩ <;> rw [he]
  · exact .idle
  · exact .request h hf hr

/-- A command is a step of the reference clock, or it leaves one of these. -/
theorem exec_unclocked {c : Instr} {s t : State} (hc : ¬ ClockStep c) (he : exec c s = .next t) : Unclocked c s t := by
  have hclock : ∀ order, c ∉ [Instr.wrap order, .missLimitReached order, .holdoverLimitReached order,
      .staleRemoval order, .holdExpiry order, .noteTimeout order] := fun order h => hc (.inr (.inr ⟨order, h⟩))
  cases c with
  | tick => exact absurd (.inl rfl) hc
  | transmissionComplete p => exact absurd (.inr (.inl ⟨p, rfl⟩)) hc
  | wrap order => exact absurd (by simp) (hclock order)
  | missLimitReached order => exact absurd (by simp) (hclock order)
  | holdoverLimitReached order => exact absurd (by simp) (hclock order)
  | staleRemoval order => exact absurd (by simp) (hclock order)
  | holdExpiry order => exact absurd (by simp) (hclock order)
  | noteTimeout order => exact absurd (by simp) (hclock order)
  | powerOn cause => exact .powerOn he
  | powerOnComplete n straps linkU linkD dFirst =>
    injection he with he
    exact he ▸ unclocked_ite (.powerOnComplete straps linkU linkD dFirst)
  | linkChange p l =>
    injection he with he
    subst he
    refine unclocked_ite ?_
    unfold linkReport
    split
    · exact .idle
    · exact .link p l
  | headerTime p b => injection he with he; exact he ▸ unclocked_ite (.header p b)
  | frameEnd p b => injection he with he; exact he ▸ unclocked_ite (.frameEnd p b)
  | firstByteOfFrame p b => injection he with he; exact he ▸ unclocked_ite (.byte p b)
  | cycFall => injection he with he; exact he ▸ unclocked_ite .cycFall
  | slotTake => injection he with he; exact he ▸ unclocked_ite .engine
  | windowClose => injection he with he; exact he ▸ unclocked_ite .engine
  | _ =>
    injection he with he
    exact he ▸ unclocked_of_requestRow rfl s

/-! ### The steps of the reference clock (R14, R55, R56) -/

/-- What a step of the reference clock leaves: what was there; a completion that is due; the completion that ends with
the tick that is the wrap; a tick; or a wrap, after what comes before it. -/
inductive Clocked (s : State) : State → Prop
  | idle : Clocked s s
  | complete (p : Port) : Clocked s (finishPort p s)
  | completeWithWrap (p : Port) : Clocked s (finishPort p (tickEvent s))
  | tick : Clocked s (tickEvent s)
  | powerTick (c : Conditions) : Clocked s { s with conditions := c }
  | wrap (order : List WrapAct) (running : s.power = .running)
      (come : (reachWrap (settleBefore order s)).timer.wrapping = true) :
      Clocked s (wrapEvent order (reachWrap (settleBefore order s)))

theorem clocked_wrapWhen (cond : State → Bool) (order : List WrapAct) (s : State) :
    Clocked s (wrapWhen cond order s) := by
  unfold wrapWhen
  dsimp only
  split
  · rename_i h
    simp only [Bool.and_eq_true, beq_iff_eq] at h
    obtain ⟨⟨hrun, hcome⟩, -⟩ := h
    exact .wrap order hrun hcome
  · exact .idle

theorem exec_clocked {c : Instr} {s t : State} (hc : ClockStep c) (he : exec c s = .next t) : Clocked s t := by
  rcases hc with rfl | ⟨p, rfl⟩ | ⟨order, hm⟩
  · cases hp : s.power with
    | running =>
      rw [exec_tick hp] at he
      injection he with he
      exact he ▸ .tick
    | poweringOn =>
      have hexec : execTick s = .next { s with conditions := s.conditions.tick } := by unfold execTick; rw [hp]
      injection hexec.symm.trans he with he
      exact he ▸ .powerTick _
  · rcases transmissionComplete_cases he with ⟨-, rfl⟩ | ⟨-, -, rfl⟩ | ⟨-, -, ⟨-, rfl⟩ | ⟨-, rfl⟩⟩
    · exact .idle
    · exact .complete p
    · exact .completeWithWrap p
    · exact .idle
  · simp only [List.mem_cons, List.not_mem_nil, or_false] at hm
    rcases hm with rfl | rfl | rfl | rfl | rfl | rfl <;>
      · injection he with he
        exact he ▸ clocked_wrapWhen _ order s

end Sys2Proof.Cycles
end

section
/-! PROOF. The law on the length of a cycle in LOCKED and HOLDOVER, and the bounds of the offset, as laws that every step
keeps (R55, R57, R64, R72). -/

namespace Sys2Proof.Cycles

open Sys2Proof.Machine Sys2Proof.Safety Sys2Proof.Claims Sys2Proof.Link Sys2Proof.Invariants Sys2Proof.Wraps

/-! ### What a wrap supplies for the new cycle (R57, R66 to R72) -/

theorem clampSlew_natAbs_le (y : SyncSettings) (d : Int) : (clampSlew y d).natAbs ≤ y.slewLimit := by
  unfold clampSlew
  omega

/-- A wrap makes no adjustment; or a correction within SLEW_LIMIT, not into HOLDOVER; or a step, into ACQUIRE. -/
theorem evaluate_cases (y : Sync) (e : Ending) :
    (evaluate y e).adjust = .none ∨
    (evaluate y e).mode ≠ .holdover ∧ (∃ d, (evaluate y e).adjust = .correct (clampSlew y.settings d)) ∨
    (evaluate y e).mode = .acquire ∧ ∃ d n, (evaluate y e).adjust = .step d n := by
  unfold evaluate
  cases y.mode with
  | free => exact .inl rfl
  | acquire =>
    show (evaluateAcquire y e).adjust = _ ∨ _
    unfold evaluateAcquire
    cases y.capture with
    | none => exact .inl rfl
    | some c =>
      dsimp only
      split
      · split
        · exact .inr (.inl ⟨nofun, _, rfl⟩)
        · exact .inr (.inl ⟨nofun, _, rfl⟩)
      · exact .inr (.inr ⟨rfl, _, _, rfl⟩)
  | locked =>
    show (evaluateLocked y e).adjust = _ ∨ _
    unfold evaluateLocked
    cases y.capture with
    | none =>
      dsimp only
      split <;> exact .inl rfl
    | some c =>
      dsimp only
      split
      · split
        · exact .inr (.inl ⟨nofun, _, rfl⟩)
        · split
          · exact .inr (.inl ⟨nofun, _, rfl⟩)
          · exact .inl rfl
      · exact .inl rfl
  | holdover =>
    show (evaluateHoldover y e).adjust = _ ∨ _
    unfold evaluateHoldover
    cases y.capture with
    | none =>
      dsimp only
      split <;> exact .inl rfl
    | some c =>
      dsimp only
      split
      · exact .inr (.inl ⟨nofun, _, rfl⟩)
      · exact .inl rfl

/-- The L in force for the cycle that a wrap begins (R56, R117). -/
def wrapL (s : State) : Nat := if (wrapPlan s).switches then s.plan.stagedL else s.plan.activeL

theorem wrapPlan_length (s : State) :
    (wrapPlan s).length = newLength (wrapL s) (evaluate s.sync (ending s)).adjust := rfl

theorem wrapL_low {s : State} (h : PlansOrdered s) : 2500 ≤ wrapL s := by
  unfold wrapL
  split
  · exact h.stagedL.1
  · exact h.activeL.1

/-- A correction within SLEW_LIMIT is the whole difference of the new cycle's length from L. -/
theorem newLength_correct {l slew : Nat} {d : Int} (hl : 2500 ≤ l) (hslew : slew ≤ 1023) (hd : d.natAbs ≤ slew) :
    (newLength l (.correct d) : Int) = l + d := by
  show (((l : Int) + d).toNat : Int) = l + d
  omega

theorem wrapPlan_length_pos {s : State} (hp : PlansOrdered s) (hy : SettingsInRange s.sync.settings) :
    0 < (wrapPlan s).length := by
  have hl := wrapL_low hp
  have hslew := hy.slewLimit.2
  rw [wrapPlan_length]
  rcases evaluate_cases s.sync (ending s) with h | ⟨-, d, h⟩ | ⟨-, d, n, h⟩ <;> rw [h]
  · exact Nat.lt_of_lt_of_le (by decide) hl
  · have hd := clampSlew_natAbs_le s.sync.settings d
    have := newLength_correct hl hslew hd
    omega
  · show 0 < max ((wrapL s : Int) + d).toNat (wrapL s / 2)
    omega

/-! ### What the law depends on -/

/-- The law of R72 with the ranges it rests on. -/
def LengthCore (s : State) : Prop := PlansOrdered s ∧ SettingsInRange s.sync.settings ∧ LengthLaw s

/-- The sync state and settings, the timer, and the active L. -/
def lengthView (s : State) := (s.sync.mode, s.sync.settings, s.timer, s.plan.activeL)

/-- The ranges of the settings and the law of R72. -/
def LengthRule (s : State) : Prop := SettingsInRange s.sync.settings ∧ LengthLaw s

theorem lengthRule_of_view {s t : State} (h : LengthRule s) (hv : lengthView t = lengthView s) : LengthRule t := by
  simp only [lengthView, Prod.mk.injEq] at hv
  obtain ⟨hmode, hsettings, htimer, hactiveL⟩ := hv
  obtain ⟨hranges, hlocked, hholdover⟩ := h
  have hadj : adjustment t = adjustment s := by unfold adjustment; rw [htimer, hactiveL]
  rw [LengthRule, hsettings]
  refine ⟨hranges, fun hm => ?_, fun hm => ?_⟩
  · rw [hadj, hsettings]; exact hlocked (hmode.symm.trans hm)
  · rw [hadj]; exact hholdover (hmode.symm.trans hm)

theorem activeL_of_planView {s t : State} (h : planView t = planView s) : t.plan.activeL = s.plan.activeL :=
  congrArg (fun v => v.2.2.2) h

theorem lengthView_report (o : Occurrence) (s : State) : lengthView (report o s) = lengthView s := by
  rw [report_eq]; rfl

theorem lengthView_gateEnds (before after : State) : lengthView (gateEnds before after) = lengthView after := by
  have hL := activeL_of_planView (planView_gateEnds before after)
  rw [gateEnds_eq] at hL ⊢
  exact congrArg (fun l => (after.sync.mode, after.sync.settings, after.timer, l)) hL

theorem lengthView_closeWindow (s : State) : lengthView (closeWindow s) = lengthView s := by
  have hL := activeL_of_planView (planView_closeWindow s)
  rw [closeWindow_eq] at hL ⊢
  exact congrArg (fun l => (s.sync.mode, s.sync.settings, s.timer, l)) hL

theorem lengthView_takeSlot (s : State) : lengthView (takeSlot s) = lengthView s := by
  have hL := activeL_of_planView (planView_takeSlot s)
  rw [takeSlot_eq] at hL ⊢
  exact congrArg (fun l => (s.sync.mode, s.sync.settings, s.timer, l)) hL

theorem lengthView_conclude (before after : State) : lengthView (conclude before after) = lengthView after := by
  rw [conclude_eq]; rfl

theorem lengthView_lines (v) : KeptOnLines fun s => lengthView s = v where
  port p _ hs := by cases p <;> exact hs
  report _ hs := (lengthView_report _ _).trans hs
  buffers _ _ _ hs := hs
  counters _ hs := hs
  pass _ hs := by unfold passAppend; split <;> exact hs
  back _ hs := by unfold backAppend; split <;> exact hs
  admission _ _ hs := by rw [admitFrame_eq]; exact hs
  mark hs := by rw [deliverMark_frame]; exact hs
  offer hs := by rw [offerRequest_frame]; exact hs

/-! ### SYNC_CONFIG (R64, R76, R77) -/

theorem syncArgs_ranges {a : List Byte} {n : SyncSettings} (h : syncArgs a = some n) : SettingsInRange n := by
  unfold syncArgs at h
  split at h
  · split at h
    · rename_i hr
      obtain ⟨hmark, hwindow, hwindow', hslew, hslew', hmiss, hmiss', hhold, hhold'⟩ := hr
      injection h with h
      subst h
      exact ⟨hmark, ⟨hwindow, hwindow'⟩, ⟨hslew, hslew'⟩, ⟨hmiss, hmiss'⟩, ⟨hhold, hhold'⟩⟩
    · cases h
  · cases h

theorem configuredSync_fields (y : Sync) (n : SyncSettings) (a : Int) :
    (configuredSync y n a).mode = configuredMode y.mode n.enable a n.slewLimit ∧
      (configuredSync y n a).settings = n := by
  unfold configuredSync
  dsimp only
  split
  · exact ⟨rfl, rfl⟩
  · split <;> exact ⟨rfl, rfl⟩

/-- SYNC_CONFIG leaves LOCKED only where the adjustment is within the new SLEW_LIMIT, and enters neither LOCKED nor
HOLDOVER (R77). -/
theorem configuredMode_cases (m : SyncMode) (enable : Bool) (a : Int) (slew : Nat) :
    (configuredMode m enable a slew = .locked → a.natAbs ≤ slew) ∧
      (configuredMode m enable a slew = .holdover → m = .holdover) := by
  unfold configuredMode
  cases enable with
  | false => exact ⟨nofun, nofun⟩
  | true =>
    cases m with
    | locked =>
      dsimp only
      split
      · exact ⟨nofun, nofun⟩
      · rename_i h; exact ⟨fun _ => Nat.le_of_not_lt h, nofun⟩
    | holdover => exact ⟨nofun, fun _ => rfl⟩
    | _ => exact ⟨nofun, nofun⟩

theorem lengthRule_configured {s : State} (h : LengthRule s) {n : SyncSettings} (hn : SettingsInRange n) :
    LengthRule { s with sync := configuredSync s.sync n (adjustment s) } := by
  obtain ⟨-, -, hholdover⟩ := h
  obtain ⟨hmode, hsettings⟩ := configuredSync_fields s.sync n (adjustment s)
  obtain ⟨hlocked, hheld⟩ := configuredMode_cases s.sync.mode n.enable (adjustment s) n.slewLimit
  rw [← hmode] at hlocked hheld
  refine ⟨hsettings.symm ▸ hn, fun hm => ?_, fun hm => hholdover (hheld hm)⟩
  exact (hlocked hm).trans_eq (congrArg SyncSettings.slewLimit hsettings.symm)

/-! ### The events of the part -/

theorem lengthRule_effect {s t : State} (h : LengthRule s) (he : Effect s t) : LengthRule t := by
  cases he with
  | deleteStream =>
    refine lengthRule_of_view h ?_
    unfold deleteStream
    dsimp only
    rw [detach_eq, purgeQueue_eq]
    rfl
  | purge => exact lengthRule_of_view h (by rw [purgeQueue_eq]; rfl)
  | hold limit => exact lengthRule_of_view h (lengthView_gateEnds s _)
  | configureSync args =>
    refine lengthRule_of_view (lengthRule_configured h (syncArgs_ranges args)) ((lengthView_gateEnds s _).trans ?_)
    rw [reportSync_eq]
    rfl
  | zero g =>
    cases g with
    | port p => cases p <;> exact lengthRule_of_view h rfl
    | _ => exact lengthRule_of_view h rfl
  | _ => exact lengthRule_of_view h rfl

theorem lengthRule_initial {s : State} (hsync : s.sync = {}) : LengthRule s := by
  have hranges : SettingsInRange {} := by constructor <;> decide
  refine ⟨hsync ▸ hranges, fun hm => ?_, fun hm => ?_⟩ <;> · rw [hsync] at hm; cases hm

theorem lengthRule_event {s t : State} (h : LengthRule s) (he : Event s t) : LengthRule t := by
  cases he with
  | header p b => exact lengthRule_of_view h ((lengthView_lines _).header p b rfl)
  | frameEnd p b => exact lengthRule_of_view h ((lengthView_lines _).frameEnd p b rfl)
  | link p l => exact lengthRule_of_view h ((lengthView_lines _).link p l rfl)
  | completeD =>
    rename_i t _
    refine lengthRule_of_view h ?_
    rw [completeD_eq]
    cases t.source <;> rfl
  | completeU =>
    rename_i t _
    rcases completeU_cases t s with ⟨x, -, he⟩ | ⟨-, he | he | ⟨-, he⟩⟩ | ⟨-, he⟩ <;> rw [he]
    · exact lengthRule_of_view h rfl
    · exact lengthRule_of_view h rfl
    · exact lengthRule_initial rfl
    · exact lengthRule_of_view h rfl
    · exact lengthRule_of_view h rfl
  | engine =>
    exact engineEvent_keeps (I := LengthRule) (fun hs => lengthRule_of_view hs (lengthView_closeWindow _))
      (fun hs => lengthRule_of_view hs (lengthView_takeSlot _)) h
  | request _ ht =>
    exact answered_keeps (I := LengthRule) lengthRule_effect (fun _ hs => lengthRule_of_view hs rfl)
      (fun o hs => lengthRule_of_view hs (lengthView_report o _)) h ht

theorem lengthRule_quiet {s t : State} (h : LengthRule s) (hq : Invariants.Quiet s t) : LengthRule t := by
  cases hq with
  | byte p b => exact lengthRule_of_view h ((lengthView_lines _).byte p b rfl)
  | cycFall => exact lengthRule_of_view h rfl
  | advance => exact ⟨h.1, h.2.locked, h.2.holdover⟩
  | comeToWrap => exact ⟨h.1, h.2.locked, h.2.holdover⟩

/-! ### The wrap -/

theorem planView_acted (before : State) (k : WrapPlan) (acts : List WrapAct) (s : State) :
    planView (acted before k acts s) = planView s :=
  acted_keeps (I := fun t => planView t = planView s)
    (fun a _ _ ht => (planView_wrapAct before k a _).trans ht) rfl

theorem activeL_copyPlan (k : WrapPlan) (s : State) :
    (copyPlan k s).plan.activeL = if k.switches then s.plan.stagedL else s.plan.activeL := by
  unfold copyPlan
  split <;> rfl

/-- The active L after a wrap is the L in force for the new cycle (R117). -/
theorem activeL_newCycle (order : List WrapAct) (s : State) : (newCycle order s).plan.activeL = wrapL s := by
  have hview := planView_acted s (wrapPlan s) (fullOrder order defaultOrder) (beginCycle (wrapPlan s) s)
  simp only [planView, Prod.mk.injEq] at hview
  obtain ⟨-, -, hstagedL, hactiveL⟩ := hview
  have hnew : (newCycle order s).plan = (wrapBlocks order s).plan := by rw [newCycle_eq]
  have hblocks : (wrapBlocks order s).plan.activeL = (copyPlan (wrapPlan s) (acted s (wrapPlan s)
      (fullOrder order defaultOrder) (beginCycle (wrapPlan s) s))).plan.activeL := rfl
  rw [hnew, hblocks, activeL_copyPlan, hstagedL, hactiveL]
  rfl

theorem sync_newCycle (order : List WrapAct) (s : State) :
    (newCycle order s).sync =
      syncAfterWrap s.sync (ending s) (evaluate s.sync (ending s)) (wrapPlan s).length := by
  rw [newCycle_eq]
  exact sync_wrapBlocks order s

theorem syncAfterWrap_fields (y : Sync) (e : Ending) (v : Evaluation) (length : Nat) :
    (syncAfterWrap y e v length).mode = v.mode ∧ (syncAfterWrap y e v length).settings = y.settings := by
  unfold syncAfterWrap
  dsimp only
  split <;> exact ⟨rfl, rfl⟩

/-- The law after a wrap: what leads to LOCKED is no adjustment or a correction within SLEW_LIMIT of the L in force, and
what leads to HOLDOVER is none (R57, R67 to R72). -/
theorem lengthRule_newCycle {s : State} (hp : PlansOrdered s) (h : LengthRule s) (order : List WrapAct) :
    LengthRule (newCycle order s) := by
  obtain ⟨hranges, -⟩ := h
  obtain ⟨hmode, hsettings⟩ := syncAfterWrap_fields s.sync (ending s) (evaluate s.sync (ending s)) (wrapPlan s).length
  rw [← sync_newCycle order] at hmode hsettings
  have htimer : (newCycle order s).timer.cl = (wrapPlan s).length := by
    rw [newCycle_eq, wrapBlocks_eq]
    exact congrArg Timer.cl (foldl_wrapAct_keepsLines s (wrapPlan s) _ _).timer
  have hadj : adjustment (newCycle order s) =
      (newLength (wrapL s) (evaluate s.sync (ending s)).adjust : Int) - (wrapL s : Int) := by
    unfold adjustment
    rw [htimer, activeL_newCycle, wrapPlan_length]
  have hl := wrapL_low hp
  refine ⟨hsettings.symm ▸ hranges, ?_, ?_⟩
  · rw [hmode, hadj, hsettings]
    intro hm
    rcases evaluate_cases s.sync (ending s) with he | ⟨-, d, he⟩ | ⟨ha, -⟩
    · rw [he]; simp [newLength]
    · have hd := clampSlew_natAbs_le s.sync.settings d
      rw [he, newLength_correct hl hranges.slewLimit.2 hd]
      omega
    · rw [hm] at ha; cases ha
  · rw [hmode, hadj]
    intro hm
    rcases evaluate_cases s.sync (ending s) with he | ⟨hn, -⟩ | ⟨ha, -⟩
    · rw [he]; simp [newLength]
    · exact absurd hm hn
    · rw [hm] at ha; cases ha

/-- Nothing that happens in a running part breaks the law of R72. -/
theorem lengthCore_kept : KeptByEvents LengthCore where
  quiet hs h := ⟨plansOrdered_kept.quiet hs.1 h, lengthRule_quiet hs.2 h⟩
  event hs h := ⟨plansOrdered_kept.events.event hs.1 h, lengthRule_of_view (lengthRule_event hs.2 h) (lengthView_conclude _ _)⟩
  wrap order hs := ⟨plansOrdered_kept.events.wrap order hs.1, lengthRule_newCycle hs.1 hs.2 order⟩

theorem lengthCore_of_eq {s t : State} (h : LengthCore s) (hplan : t.plan = s.plan) (hv : lengthView t = lengthView s) :
    LengthCore t :=
  ⟨plansOrdered_of_view h.1 (by unfold planView; rw [hplan]), lengthRule_of_view h.2 hv⟩

theorem lengthCore_lift : Lifts LengthCore LengthCore where
  kept := lengthCore_kept
  running _ := Iff.rfl
  pending _ hs := lengthCore_of_eq hs rfl rfl
  begins _ hs := lengthCore_of_eq hs rfl rfl
  conditions _ _ hs := lengthCore_of_eq hs rfl rfl
  values _ _ := ⟨plansOrdered_initial rfl, lengthRule_initial rfl⟩

/-! ### The bounds of the offset (R55) -/

/-- The offset is below CL, and the tick that is the wrap comes at the last one. -/
def OffsetBounded (t : Timer) : Prop := t.offset < t.cl ∧ (t.wrapping = true → t.offset + 1 = t.cl)

theorem offsetBounded_initial : OffsetBounded {} := ⟨by decide, fun h => by cases h⟩

theorem lengthView_linkReport (p : Port) (l : Link) (s : State) : lengthView (linkReport p l s) = lengthView s := by
  unfold linkReport
  split
  · rfl
  · exact (lengthView_conclude s (changeLink p l s)).trans ((lengthView_lines (lengthView s)).link p l rfl)

theorem lengthView_firstReports (linkU linkD : Link) (dFirst : Bool) (s : State) :
    lengthView (firstReports linkU linkD dFirst s) = lengthView s := by
  unfold firstReports
  split <;> rw [lengthView_linkReport, lengthView_linkReport]

/-- Only a step of the reference clock moves the offset, but for the completion of power-on, which begins cycle 0. -/
theorem timer_unclocked {c : Instr} {s t : State} (h : Unclocked c s t) : t.timer = s.timer ∨ t.timer = {} := by
  have hview : ∀ {u : State}, lengthView u = lengthView s → (conclude s u).timer = s.timer := fun hu =>
    congrArg (fun v => v.2.2.1) ((lengthView_conclude s _).trans hu)
  cases h with
  | idle => exact .inl rfl
  | powerOn taken =>
    obtain ⟨c, -, rfl | ⟨-, rfl⟩ | rfl⟩ := execPowerOn_cases taken <;> exact .inl rfl
  | powerOnComplete => exact .inr (congrArg (fun v => v.2.2.1) (lengthView_firstReports _ _ _ _))
  | link p l => exact .inl (hview ((lengthView_lines _).link p l rfl))
  | byte p b => exact .inl (congrArg (fun v => v.2.2.1) ((lengthView_lines (lengthView s)).byte p b rfl))
  | header p b => exact .inl (hview ((lengthView_lines _).header p b rfl))
  | frameEnd p b => exact .inl (hview ((lengthView_lines _).frameEnd p b rfl))
  | cycFall => exact .inl (congrArg (fun v => v.2.1) (clockView_dropCyc s))
  | engine => exact .inl (congrArg (fun v => v.2.1) (clockView_finishEngine s))
  | request own next row =>
    subst row
    rw [← takeOldest_eq next]
    exact .inl (congrArg (fun v => v.2.1) (clockView_takeOldest next))

theorem timer_finishPort (p : Port) (s : State) : (finishPort p s).timer = s.timer ∨ (finishPort p s).timer = {} := by
  cases p with
  | u => exact (finishU_power_timer s).2
  | d => exact .inl (congrArg (fun v => v.2.1) (clockView_finishD s))

theorem timer_settleClock (s : State) : (settleClock s).timer = s.timer ∨ (settleClock s).timer = {} := by
  have hengine : (settleClock s).timer = (finishU (finishD s)).timer :=
    congrArg (fun v => v.2.1) ((clockView_dropCyc _).trans (clockView_finishEngine _))
  have hD : (finishD s).timer = s.timer := congrArg (fun v => v.2.1) (clockView_finishD s)
  rw [hengine, ← hD]
  exact (finishU_power_timer _).2

theorem offsetBounded_of_eq {s t : Timer} (h : OffsetBounded s) (ht : t = s ∨ t = {}) : OffsetBounded t := by
  rcases ht with rfl | rfl
  · exact h
  · exact offsetBounded_initial

/-- The next tick is the wrap exactly at the last offset (R55). -/
theorem wrapDue_iff (s : State) : wrapDue s = true ↔ s.timer.cl ≤ s.timer.offset + 1 := decide_eq_true_iff

theorem offsetBounded_comeToWrap {s : State} (h : OffsetBounded s.timer) (hdue : wrapDue s = true) :
    OffsetBounded (comeToWrap s).timer := by
  have hlast := (wrapDue_iff s).1 hdue
  obtain ⟨hlt, -⟩ := h
  exact ⟨hlt, fun _ => by show s.timer.offset + 1 = s.timer.cl; omega⟩

theorem offsetBounded_advance {s : State} (h : OffsetBounded s.timer) (hdue : wrapDue s = false) :
    OffsetBounded (advance s).timer := by
  have hnot : ¬ s.timer.cl ≤ s.timer.offset + 1 := fun hle => by rw [(wrapDue_iff s).2 hle] at hdue; cases hdue
  refine ⟨by show s.timer.offset + 1 < s.timer.cl; omega, fun hw => ?_⟩
  have := h.2 hw
  omega

theorem offsetBounded_tickEvent {s : State} (h : OffsetBounded s.timer) : OffsetBounded (tickEvent s).timer := by
  have hsettle : OffsetBounded (settle s).timer := by
    unfold settle
    rw [(takeWaiting_power_timer _).2]
    exact offsetBounded_of_eq h (timer_settleClock s)
  rcases tickEvent_cases s with ⟨-, he⟩ | ⟨-, hdue, he⟩ | ⟨-, hdue, he⟩ <;> rw [he]
  · exact h
  · exact offsetBounded_comeToWrap hsettle hdue
  · exact offsetBounded_advance hsettle hdue

theorem offsetBounded_clocked {s t : State} (hcore : LengthCore s) (h : OffsetBounded s.timer) (hc : Clocked s t) :
    OffsetBounded t.timer := by
  cases hc with
  | idle => exact h
  | complete p => exact offsetBounded_of_eq h (timer_finishPort p s)
  | completeWithWrap p => exact offsetBounded_of_eq (offsetBounded_tickEvent h) (timer_finishPort p _)
  | tick => exact offsetBounded_tickEvent h
  | powerTick => exact h
  | wrap order =>
    obtain ⟨hplans, hranges, -⟩ := lengthCore_kept.reachWrap (lengthCore_kept.settleBefore order hcore)
    rw [timer_wrapEvent]
    exact ⟨wrapPlan_length_pos hplans hranges, fun hw => by cases hw⟩

theorem offsetBounded_exec {c : Instr} {s t : State} (hcore : LengthCore s) (h : OffsetBounded s.timer)
    (he : exec c s = .next t) : OffsetBounded t.timer := by
  by_cases hc : ClockStep c
  · exact offsetBounded_clocked hcore h (exec_clocked hc he)
  · exact offsetBounded_of_eq h (timer_unclocked (exec_unclocked hc he))

/-- Settles O58: a wrap gives the new cycle the L in force with the adjustment that its sync state allows, SYNC_CONFIG
keeps LOCKED only within the new SLEW_LIMIT, and only a tick below the last offset raises the offset. -/
theorem lengthLawsKept : Obligations.LengthLawsKept := by
  rintro s s' ⟨hplans, hranges, hlaw, hoffset, hwrapping⟩ he
  have hcore : LengthCore s := ⟨hplans, hranges, hlaw⟩
  obtain ⟨hplans', hranges', hlaw'⟩ := lengthCore_lift.step hcore he
  have hbounded : OffsetBounded s'.timer := by
    rcases step_cases he with ⟨-, rfl⟩ | ⟨c, rest, -, hexec⟩
    · exact ⟨hoffset, hwrapping⟩
    · exact offsetBounded_exec (s := { s with pending := rest }) (lengthCore_lift.pending rest hcore)
        ⟨hoffset, hwrapping⟩ hexec
  exact ⟨hplans', hranges', hlaw', hbounded.1, hbounded.2⟩

end Sys2Proof.Cycles
end

section
/-! PROOF. What a wrap makes of the capture record in each sync state, and the settling of the obligations on it (R56, R57,
R62 to R74). -/

namespace Sys2Proof.Cycles

open Sys2Proof.Machine Sys2Proof.Safety Sys2Proof.Claims Sys2Proof.Link Sys2Proof.Invariants Sys2Proof.Wraps

/-! ### The deviation (R63) -/

/-- The reduction is the one number of the half-open interval that differs from `x` by whole cycles. -/
theorem reduce_eq_iff {x d : Int} {cl : Nat} (hcl : 0 < cl) :
    reduce x cl = d ↔ -(cl : Int) ≤ 2 * d ∧ 2 * d < cl ∧ ∃ k : Int, x = d + k * cl := by
  have hpos : (0 : Int) < cl := by exact_mod_cast hcl
  unfold reduce
  constructor
  · intro h
    have hlow := Int.emod_nonneg (x + (cl / 2 : Nat)) hpos.ne'
    have hhigh := Int.emod_lt_of_pos (x + (cl / 2 : Nat)) hpos
    have hdiv := Int.emod_add_mul_ediv (x + (cl / 2 : Nat)) cl
    refine ⟨by omega, by omega, (x + (cl / 2 : Nat)) / cl, ?_⟩
    rw [Int.mul_comm]
    omega
  · rintro ⟨hlow, hhigh, k, rfl⟩
    have hshift : d + k * cl + (cl / 2 : Nat) = (d + (cl / 2 : Nat)) + k * cl := by ring
    rw [hshift, Int.add_mul_emod_self_right, Int.emod_eq_of_lt (by omega) (by omega)]
    omega

/-- Settles O25. -/
theorem deviationReduced : Obligations.DeviationReduced := fun _ _ _ hcl => (reduce_eq_iff hcl).symm

theorem deviation_of_isDeviation {s : State} {c : Capture} {d : Int} (hcl : 0 < s.timer.cl) (h : IsDeviation s c d) :
    deviation s.sync.settings (ending s) c = d := (deviationReduced s c d hcl).1 h

theorem clampSlew_eq (s : State) (d : Int) : clampSlew s.sync.settings d = clamped s d := by
  unfold clampSlew clamped
  split
  · omega
  · split <;> omega

theorem goodCapture_iff (s : State) (c : Capture) (d : Int) :
    (numberMatch (ending s) c && withinWindow s.sync.settings d) = true ↔ GoodCapture s c d := by
  simp [numberMatch, withinWindow, GoodCapture, ending]

/-! ### The number and the length of the new cycle (R56, R57, R116, R117) -/

theorem atOrAfter_eq (a b : Cycle) :
    atOrAfter a b = decide ((a.toNat + 4294967296 - b.toNat) % 4294967296 < 2147483648) := by
  have hsub : (a - b).toNat = (a.toNat + 4294967296 - b.toNat) % 4294967296 := by
    have := b.isLt
    rw [BitVec.toNat_sub]
    omega
  unfold atOrAfter
  rw [hsub]
  rfl

theorem switches_eq (s : State) : (wrapPlan s).switches = switchesInto s (wrapPlan s).number := by
  show (s.plan.mode == .pending && meetsTarget s.plan.target (wrapPlan s).number) = _
  unfold switchesInto
  generalize (wrapPlan s).number = n
  cases s.plan.target with
  | none => rfl
  | next => rfl
  | atCycle m =>
    show (_ && atOrAfter n m) = _
    rw [atOrAfter_eq]
    rfl

theorem wrapL_eq (s : State) : wrapL s = lengthInForce s (wrapPlan s).number := by
  unfold wrapL lengthInForce
  rw [switches_eq]

/-- The timer that an adjustment gives the new cycle (R56, R57). -/
def adjustedCycle (s : State) (adj : Adjust) : Timer :=
  { cycle := newNumber (ending s) adj, offset := 0,
    cl := newLength (lengthInForce s (newNumber (ending s) adj)) adj }

theorem adjustedCycle_none (s : State) : adjustedCycle s .none = nextCycle s 0 := by
  unfold adjustedCycle nextCycle
  rw [Int.add_zero, Int.toNat_natCast]
  rfl

theorem adjustedCycle_correct (s : State) (d : Int) :
    adjustedCycle s (.correct (clampSlew s.sync.settings d)) = nextCycle s (clamped s d) := by
  rw [clampSlew_eq]
  rfl

theorem adjustedCycle_step (s : State) (c : Capture) (d : Int) :
    adjustedCycle s (.step d (c.markNumber + 1)) = steppedCycle s c d := by
  have hcl : ∀ l : Nat, max ((l : Int) + d).toNat (l / 2) =
      if (l : Int) + d < (l / 2 : Nat) then l / 2 else ((l : Int) + d).toNat := by
    intro l
    split <;> omega
  show Timer.mk _ 0 (max _ _) false = _
  rw [hcl]
  rfl

/-! ### What the wrap leaves (R56, R62, R74) -/

theorem wrapPlan_reachWrap {s : State} {order : List WrapAct} (h : AtWrap s order) :
    wrapPlan (reachWrap s) = wrapPlan s := by
  rw [reachWrap_of_atWrap h]
  rfl

theorem wrap_timer_sync {s : State} {order : List WrapAct} (h : AtWrap s order) :
    (wrapEvent order (reachWrap s)).timer = adjustedCycle s (evaluate s.sync (ending s)).adjust ∧
    (wrapEvent order (reachWrap s)).sync =
      syncAfterWrap s.sync (ending s) (evaluate s.sync (ending s))
        (adjustedCycle s (evaluate s.sync (ending s)).adjust).cl := by
  have hsync : (reachWrap s).sync = s.sync := by rw [reachWrap_of_atWrap h]
  have hending : ending (reachWrap s) = ending s := by rw [reachWrap_of_atWrap h]; rfl
  have hlength : (wrapPlan s).length = (adjustedCycle s (evaluate s.sync (ending s)).adjust).cl := by
    rw [wrapPlan_length, wrapL_eq]
    rfl
  rw [timer_wrapEvent, sync_wrapEvent, hsync, hending, wrapPlan_reachWrap h, hlength]
  exact ⟨rfl, rfl⟩

/-- Outside FREE a wrap leaves what its evaluation says, with the trace record of it (R62, R74). -/
theorem syncedTo_of_evaluate {s : State} {order : List WrapAct} (h : AtWrap s order) (hfree : s.sync.mode ≠ .free)
    {v : Evaluation} (hv : evaluate s.sync (ending s) = v) {d : Int}
    (hd : ∀ c, s.sync.capture = some c → deviation s.sync.settings (ending s) c = d) :
    SyncedTo s (wrapEvent order (reachWrap s)) v.mode v.counts v.counters (adjustedCycle s v.adjust)
      v.adjust.isStep v.adjust.applied d := by
  obtain ⟨htimer, hsync⟩ := wrap_timer_sync h
  subst hv
  refine ⟨htimer, hsync.trans ?_⟩
  have htrace : ∀ l, traceRecord s.sync (ending s) (evaluate s.sync (ending s)) l =
      wrapTrace s (evaluate s.sync (ending s)).mode (evaluate s.sync (ending s)).adjust.isStep
        (evaluate s.sync (ending s)).adjust.applied d l := by
    intro l
    unfold traceRecord wrapTrace
    cases hc : s.sync.capture with
    | none => rfl
    | some c =>
      dsimp only
      rw [hd c hc]
      rfl
  unfold syncAfterWrap syncWith
  rw [if_neg hfree, htrace]
  rfl

/-- Where the wrap is next, its command takes it. -/
theorem exec_wrap_of_atWrap {s : State} {order : List WrapAct} (h : AtWrap s order) :
    exec (.wrap order) s = .next (wrapEvent order (reachWrap s)) :=
  congrArg Host.Outcome.next (wrapWhen_of_atWrap h (cond := fun _ => true) rfl)

theorem cl_pos_of_atWrap {s : State} {order : List WrapAct} (h : AtWrap s order) : 0 < s.timer.cl := by
  have := h.due
  omega

section Evaluated

variable {s : State} {order : List WrapAct} (h : AtWrap s order)
include h

/-- A wrap that makes no adjustment. -/
theorem syncedTo_none (hfree : s.sync.mode ≠ .free) {m : SyncMode} {counts : SyncCounts} {counters : SyncCounters}
    (hv : evaluate s.sync (ending s) = { mode := m, counts := counts, adjust := .none, counters := counters }) {d : Int}
    (hd : ∀ c, s.sync.capture = some c → deviation s.sync.settings (ending s) c = d) :
    SyncedTo s (wrapEvent order (reachWrap s)) m counts counters (nextCycle s 0) false false d :=
  adjustedCycle_none s ▸ syncedTo_of_evaluate h hfree hv hd

/-- A wrap that corrects by the clamped deviation. -/
theorem syncedTo_correct (hfree : s.sync.mode ≠ .free) {m : SyncMode} {counts : SyncCounts} {counters : SyncCounters}
    {d : Int}
    (hv : evaluate s.sync (ending s) =
      { mode := m, counts := counts, adjust := .correct (clampSlew s.sync.settings d), counters := counters })
    (hd : ∀ c, s.sync.capture = some c → deviation s.sync.settings (ending s) c = d) :
    SyncedTo s (wrapEvent order (reachWrap s)) m counts counters (nextCycle s (clamped s d)) false true d :=
  adjustedCycle_correct s d ▸ syncedTo_of_evaluate h hfree hv hd

/-- A wrap that steps. -/
theorem syncedTo_step (hfree : s.sync.mode ≠ .free) {m : SyncMode} {counts : SyncCounts} {counters : SyncCounters}
    {d : Int} {c : Capture}
    (hv : evaluate s.sync (ending s) =
      { mode := m, counts := counts, adjust := .step d (c.markNumber + 1), counters := counters })
    (hd : ∀ c, s.sync.capture = some c → deviation s.sync.settings (ending s) c = d) :
    SyncedTo s (wrapEvent order (reachWrap s)) m counts counters (steppedCycle s c d) true true d :=
  adjustedCycle_step s c d ▸ syncedTo_of_evaluate h hfree hv hd

/-- The capture's deviation is the one the evaluation reads. -/
theorem deviation_of_capture {c : Capture} {d : Int} (hc : s.sync.capture = some c) (hdev : IsDeviation s c d) :
    ∀ c', s.sync.capture = some c' → deviation s.sync.settings (ending s) c' = d := by
  intro c' hc'
  obtain rfl : c = c' := Option.some.inj (hc.symm.trans hc')
  exact deviation_of_isDeviation (cl_pos_of_atWrap h) hdev

end Evaluated

theorem deviation_of_empty {s : State} (hc : s.sync.capture = none) (d : Int) :
    ∀ c, s.sync.capture = some c → deviation s.sync.settings (ending s) c = d := by
  intro c h
  rw [hc] at h
  cases h

/-! ### ACQUIRE (R67, R68) -/

theorem evaluate_acquire_empty {y : Sync} {e : Ending} (hm : y.mode = .acquire) (hc : y.capture = none) :
    evaluate y e =
      { mode := .acquire, counts := { y.counts with good := 0 }, adjust := .none, counters := y.counters } := by
  unfold evaluate evaluateAcquire
  rw [hm, hc]

theorem evaluate_acquire_capture {y : Sync} {e : Ending} {c : Capture} {d : Int} (hm : y.mode = .acquire)
    (hc : y.capture = some c) (hd : deviation y.settings e c = d) :
    evaluate y e =
      if numberMatch e c && withinWindow y.settings d then
        if 4 ≤ y.counts.good + 1 then
          { mode := .locked, counts := { good := 4 }, adjust := .correct (clampSlew y.settings d),
            counters := y.counters }
        else
          { mode := .acquire, counts := { y.counts with good := y.counts.good + 1 },
            adjust := .correct (clampSlew y.settings d), counters := y.counters }
      else
        { mode := .acquire, counts := { y.counts with good := 0 }, adjust := .step d (c.markNumber + 1),
          counters := { y.counters with steps := y.counters.steps + 1 } } := by
  subst hd
  unfold evaluate evaluateAcquire
  rw [hm, hc]
  rfl

/-- Settles O28. -/
theorem acquireWrapEvaluates : Obligations.AcquireWrapEvaluates := by
  intro s order h hm
  have hfree : s.sync.mode ≠ .free := by simp [hm]
  refine ⟨_, exec_wrap_of_atWrap h, fun c d hc hdev hgood hlow => ?_, fun c d hc hdev hgood hhigh => ?_,
    fun c d hc hdev hbad => ?_, fun hc => ?_⟩
  · have hd := deviation_of_capture h hc hdev
    refine syncedTo_correct h hfree ?_ hd
    rw [evaluate_acquire_capture hm hc (hd c hc), if_pos ((goodCapture_iff s c d).2 hgood), if_neg (by omega)]
  · have hd := deviation_of_capture h hc hdev
    refine syncedTo_correct h hfree ?_ hd
    rw [evaluate_acquire_capture hm hc (hd c hc), if_pos ((goodCapture_iff s c d).2 hgood), if_pos (by omega)]
  · have hd := deviation_of_capture h hc hdev
    refine syncedTo_step h hfree ?_ hd
    rw [evaluate_acquire_capture hm hc (hd c hc), if_neg fun hg => hbad ((goodCapture_iff s c d).1 hg)]
  · exact syncedTo_none h hfree (evaluate_acquire_empty hm hc) (deviation_of_empty hc 0)

/-! ### LOCKED (R69, R70) -/

theorem evaluate_locked_empty {y : Sync} {e : Ending} (hm : y.mode = .locked) (hc : y.capture = none) :
    evaluate y e =
      if y.settings.missLimit ≤ y.counts.miss + 1 then
        { mode := .holdover, counts := { y.counts with miss := y.counts.miss + 1, holdover := 0 }, adjust := .none,
          counters := { y.counters with misses := y.counters.misses + 1 } }
      else
        { mode := .locked, counts := { y.counts with miss := y.counts.miss + 1 }, adjust := .none,
          counters := { y.counters with misses := y.counters.misses + 1 } } := by
  unfold evaluate evaluateLocked
  rw [hm, hc]

/-- A number match in LOCKED corrects, unless it is a second excursion (R69). -/
theorem evaluate_locked_match {y : Sync} {e : Ending} {c : Capture} {d : Int} (hm : y.mode = .locked)
    (hc : y.capture = some c) (hd : deviation y.settings e c = d) (hn : numberMatch e c = true) :
    evaluate y e =
      if withinWindow y.settings d then
        { mode := .locked, counts := { y.counts with miss := 0, excursion := 0 },
          adjust := .correct (clampSlew y.settings d), counters := y.counters }
      else if y.counts.excursion + 1 < 2 then
        { mode := .locked, counts := { y.counts with miss := 0, excursion := y.counts.excursion + 1 },
          adjust := .correct (clampSlew y.settings d), counters := y.counters }
      else { mode := .acquire, counts := {}, adjust := .none, counters := lockLost y.counters } := by
  subst hd
  unfold evaluate evaluateLocked
  rw [hm, hc]
  dsimp only
  rw [if_pos hn]
  rfl

theorem evaluate_locked_mismatch {y : Sync} {e : Ending} {c : Capture} (hm : y.mode = .locked)
    (hc : y.capture = some c) (hn : numberMatch e c = false) :
    evaluate y e = { mode := .acquire, counts := {}, adjust := .none, counters := lockLost y.counters } := by
  unfold evaluate evaluateLocked
  rw [hm, hc]
  dsimp only
  rw [hn]
  rfl

theorem numberMatch_iff (s : State) (c : Capture) : numberMatch (ending s) c = true ↔ c.markNumber = s.timer.cycle := by
  simp [numberMatch, ending]

theorem withinWindow_of_good {s : State} {c : Capture} {d : Int} (h : GoodCapture s c d) :
    withinWindow s.sync.settings d = true := decide_eq_true h.2

/-- A number match that is no good capture is an excursion (R69). -/
theorem not_withinWindow {s : State} {c : Capture} {d : Int} (hn : c.markNumber = s.timer.cycle)
    (h : ¬ GoodCapture s c d) : ¬ withinWindow s.sync.settings d = true := fun hw => h ⟨hn, of_decide_eq_true hw⟩

/-- The wrap is taken by its own command, and by that of a limit which is met at it. -/
theorem exec_of_limit {s : State} {order : List WrapAct} {c limited : Instr} {limit : Prop} (h : AtWrap s order)
    (hlimited : limit → exec limited s = .next (wrapEvent order (reachWrap s)))
    (hc : c = .wrap order ∨ c = limited ∧ limit) : exec c s = .next (wrapEvent order (reachWrap s)) := by
  rcases hc with rfl | ⟨rfl, hl⟩
  · exact exec_wrap_of_atWrap h
  · exact hlimited hl

theorem exec_missLimit {s : State} {order : List WrapAct} (h : AtWrap s order) (hm : s.sync.mode = .locked)
    (hl : s.sync.capture = none ∧ s.sync.settings.missLimit ≤ s.sync.counts.miss + 1) :
    exec (.missLimitReached order) s = .next (wrapEvent order (reachWrap s)) := by
  refine congrArg Host.Outcome.next (wrapWhen_of_atWrap h (cond := missLimitMet) ?_)
  rw [reachWrap_of_atWrap h]
  simp [missLimitMet, hm, hl.1, hl.2]

/-- Settles O29. -/
theorem lockedWrapEvaluates : Obligations.LockedWrapEvaluates := by
  intro s order c h hm k n limit hc
  have hfree : s.sync.mode ≠ .free := by simp [hm]
  refine ⟨_, exec_of_limit h (exec_missLimit h hm) hc, fun c d hc hdev hgood => ?_,
    fun c d hc hdev hnum hbad hexc => ?_, fun c d hc hdev hlost => ?_, fun hc hno => ?_, fun hl => ?_⟩
  · have hd := deviation_of_capture h hc hdev
    refine syncedTo_correct h hfree ?_ hd
    rw [evaluate_locked_match hm hc (hd c hc) ((numberMatch_iff s c).2 hgood.1), if_pos (withinWindow_of_good hgood)]
  · have hd := deviation_of_capture h hc hdev
    refine syncedTo_correct h hfree ?_ hd
    have hexc' : s.sync.counts.excursion = 0 := hexc
    rw [evaluate_locked_match hm hc (hd c hc) ((numberMatch_iff s c).2 hnum), if_neg (not_withinWindow hnum hbad),
      if_pos (by omega), hexc']
  · have hd := deviation_of_capture h hc hdev
    refine syncedTo_none h hfree ?_ hd
    by_cases hnum : c.markNumber = s.timer.cycle
    · obtain ⟨hbad, hexc⟩ := hlost.resolve_left (not_not_intro hnum)
      have hexc' : s.sync.counts.excursion ≠ 0 := hexc
      rw [evaluate_locked_match hm hc (hd c hc) ((numberMatch_iff s c).2 hnum), if_neg (not_withinWindow hnum hbad),
        if_neg (by omega)]
      rfl
    · have hmis : numberMatch (ending s) c = false := Bool.eq_false_iff.2 fun hn => hnum ((numberMatch_iff s c).1 hn)
      rw [evaluate_locked_mismatch hm hc hmis]
      rfl
  · refine syncedTo_none h hfree ?_ (deviation_of_empty hc 0)
    rw [evaluate_locked_empty hm hc, if_neg fun hl => hno ⟨hc, hl⟩]
  · obtain ⟨hempty, hmet⟩ := hl
    refine syncedTo_none h hfree ?_ (deviation_of_empty hempty 0)
    rw [evaluate_locked_empty hm hempty, if_pos hmet]

/-! ### HOLDOVER (R71) -/

theorem evaluate_holdover_empty {y : Sync} {e : Ending} (hm : y.mode = .holdover) (hc : y.capture = none) :
    evaluate y e =
      if y.counts.holdover + 1 < y.settings.holdoverLimit then
        { mode := .holdover, counts := { y.counts with holdover := y.counts.holdover + 1 }, adjust := .none,
          counters := y.counters }
      else { mode := .acquire, counts := {}, adjust := .none, counters := lockLost y.counters } := by
  unfold evaluate evaluateHoldover
  rw [hm, hc]
  rfl

theorem evaluate_holdover_capture {y : Sync} {e : Ending} {c : Capture} {d : Int} (hm : y.mode = .holdover)
    (hc : y.capture = some c) (hd : deviation y.settings e c = d) :
    evaluate y e =
      if numberMatch e c && withinWindow y.settings d then
        { mode := .locked, counts := { good := 4 }, adjust := .correct (clampSlew y.settings d),
          counters := y.counters }
      else { mode := .acquire, counts := {}, adjust := .none, counters := lockLost y.counters } := by
  subst hd
  unfold evaluate evaluateHoldover
  rw [hm, hc]
  rfl

theorem exec_holdoverLimit {s : State} {order : List WrapAct} (h : AtWrap s order) (hm : s.sync.mode = .holdover)
    (hl : s.sync.capture = none ∧ s.sync.settings.holdoverLimit ≤ s.sync.counts.holdover + 1) :
    exec (.holdoverLimitReached order) s = .next (wrapEvent order (reachWrap s)) := by
  refine congrArg Host.Outcome.next (wrapWhen_of_atWrap h (cond := holdoverLimitMet) ?_)
  rw [reachWrap_of_atWrap h]
  simp [holdoverLimitMet, hm, hl.1, hl.2]

/-- Settles O30. -/
theorem holdoverWrapEvaluates : Obligations.HoldoverWrapEvaluates := by
  intro s order c h hm k n limit hc
  have hfree : s.sync.mode ≠ .free := by simp [hm]
  refine ⟨_, exec_of_limit h (exec_holdoverLimit h hm) hc, fun c d hc hdev hgood => ?_, fun c d hc hdev hbad => ?_,
    fun hc hno => ?_, fun hl => ?_⟩
  · have hd := deviation_of_capture h hc hdev
    refine syncedTo_correct h hfree ?_ hd
    rw [evaluate_holdover_capture hm hc (hd c hc), if_pos ((goodCapture_iff s c d).2 hgood)]
  · have hd := deviation_of_capture h hc hdev
    refine syncedTo_none h hfree ?_ hd
    rw [evaluate_holdover_capture hm hc (hd c hc), if_neg fun hg => hbad ((goodCapture_iff s c d).1 hg)]
    rfl
  · refine syncedTo_none h hfree ?_ (deviation_of_empty hc 0)
    rw [evaluate_holdover_empty hm hc, if_pos (Nat.lt_of_not_le fun hl => hno ⟨hc, hl⟩)]
  · obtain ⟨hempty, hmet⟩ := hl
    refine syncedTo_none h hfree ?_ (deviation_of_empty hempty 0)
    rw [evaluate_holdover_empty hm hempty, if_neg (Nat.not_lt.2 hmet)]
    rfl

end Sys2Proof.Cycles
end

section
/-! PROOF. FREE: its wraps make no adjustment, and only a SYNC_CONFIG with ENABLE on leaves it (R56, R66, R77, R129). -/

namespace Sys2Proof.Cycles

open Sys2Proof.Machine Sys2Proof.Safety Sys2Proof.Claims Sys2Proof.Link Sys2Proof.Invariants Sys2Proof.Wraps

/-! ### A wrap in FREE (R66) -/

theorem evaluate_free {y : Sync} (e : Ending) (hm : y.mode = .free) :
    evaluate y e = { mode := .free, counts := y.counts, adjust := .none, counters := y.counters } := by
  unfold evaluate
  rw [hm]

theorem syncAfterWrap_free {y : Sync} (e : Ending) (length : Nat) (hm : y.mode = .free) :
    syncAfterWrap y e (evaluate y e) length = { y with capture := none } := by
  unfold syncAfterWrap
  rw [if_pos hm, evaluate_free e hm, ← hm]

/-! ### What changes the sync state and the settings (R64, R65) -/

/-- The sync state and the settings. -/
def modeView (s : State) := (s.sync.mode, s.sync.settings)

theorem modeView_of_lengthView {s t : State} (h : lengthView t = lengthView s) : modeView t = modeView s :=
  congrArg (fun v => (v.1, v.2.1)) h

theorem modeView_editing {s : State} {a : Answer} (h : modeView a.state = modeView s) :
    modeView (editing s a).state = modeView s := by
  unfold editing; split
  · rfl
  · exact h

theorem modeView_streamOwners (a : List Byte) (s : State) :
    modeView (streamWriteOwner a s).state = modeView s ∧ modeView (streamDeleteOwner a s).state = modeView s ∧
      modeView (streamLockOwner a s).state = modeView s ∧ modeView (streamReadOwner a s).state = modeView s ∧
      modeView (streamPurgeOwner a s).state = modeView s := by
  refine ⟨?_, ?_, ?_, ?_, ?_⟩
  · unfold streamWriteOwner
    split
    · repeat' split
      all_goals rfl
    · rfl
  · unfold streamDeleteOwner
    split
    · repeat' split
      all_goals try rfl
      show modeView (deleteStream _ s) = _
      unfold deleteStream
      dsimp only
      rw [detach_eq, purgeQueue_eq]
      rfl
    · rfl
  · unfold streamLockOwner
    split
    · split <;> rfl
    · rfl
  · unfold streamReadOwner
    split
    · split <;> rfl
    · rfl
  · unfold streamPurgeOwner
    split
    · split
      · rfl
      · show modeView (purgeQueue _ s) = _
        rw [purgeQueue_eq]
        rfl
    · rfl

theorem modeView_slotOwners (a : List Byte) (s : State) :
    modeView (slotAddOwner a s).state = modeView s ∧ modeView (slotDropOwner a s).state = modeView s ∧
      modeView (slotReadOwner a s).state = modeView s ∧ modeView (cycleStageOwner a s).state = modeView s := by
  refine ⟨?_, ?_, ?_, ?_⟩
  · unfold slotAddOwner
    split
    · refine modeView_editing ?_
      repeat' split
      all_goals rfl
    · rfl
  · unfold slotDropOwner
    split
    · rfl
    · refine modeView_editing ?_
      split <;> rfl
  · unfold slotReadOwner
    split
    · rfl
    · split <;> rfl
  · unfold cycleStageOwner
    split
    · rfl
    · exact modeView_editing rfl

theorem modeView_planOwners (a : List Byte) (s : State) :
    modeView (switchOwner a s).state = modeView s ∧ modeView (withdrawOwner a s).state = modeView s ∧
      modeView (holdOwner a s).state = modeView s ∧ modeView (resumeOwner a s).state = modeView s := by
  refine ⟨?_, ?_, ?_, ?_⟩
  · unfold switchOwner
    repeat' split
    all_goals rfl
  · unfold withdrawOwner
    split <;> rfl
  · unfold holdOwner
    split
    · rfl
    · split
      · rfl
      · show modeView (gateEnds s _) = _
        rw [gateEnds_eq]
        rfl
  · unfold resumeOwner
    split <;> rfl

theorem modeView_unitOwners (a : List Byte) (s : State) :
    modeView (traceReadOwner a s).state = modeView s ∧ modeView (countReadOwner a s).state = modeView s ∧
      modeView (noteAckOwner a s).state = modeView s ∧ modeView (noteConfigOwner a s).state = modeView s ∧
      modeView (passConfigOwner a s).state = modeView s := by
  refine ⟨?_, ?_, ?_, ?_, ?_⟩
  · unfold traceReadOwner
    split <;> rfl
  · have hzero : ∀ g, modeView (zeroGroup g s) = modeView s := by
      intro g
      cases g with
      | port p => cases p <;> rfl
      | _ => rfl
    unfold countReadOwner
    split
    · split
      · exact hzero _
      · rfl
    · rfl
  · unfold noteAckOwner
    dsimp only
    split <;> rfl
  · unfold noteConfigOwner
    split <;> rfl
  · unfold passConfigOwner
    split
    · split <;> rfl
    · rfl

/-- No request but SYNC_CONFIG has an effect on the sync state or the settings. -/
theorem modeView_ownerOf {o : Op} (ho : o ≠ .syncConfig) (a : List Byte) (s : State) :
    modeView (ownerOf o a s).state = modeView s := by
  obtain ⟨hwrite, hdelete, hlock, hread, hpurge⟩ := modeView_streamOwners a s
  obtain ⟨hadd, hdrop, hslot, hcycle⟩ := modeView_slotOwners a s
  obtain ⟨hswitch, hwithdraw, hhold, hresume⟩ := modeView_planOwners a s
  obtain ⟨htrace, hcount, hack, hnotes, hpass⟩ := modeView_unitOwners a s
  cases o with
  | syncConfig => exact absurd rfl ho
  | ident => rfl
  | syncRead => rfl
  | restart => rfl
  | stageEmpty => exact modeView_editing rfl
  | stageFromActive => exact modeView_editing rfl
  | streamWrite => exact hwrite
  | streamDelete => exact hdelete
  | streamLock => exact hlock
  | streamRead => exact hread
  | streamPurge => exact hpurge
  | slotAdd => exact hadd
  | slotDrop => exact hdrop
  | slotRead => exact hslot
  | cycleStage => exact hcycle
  | switch => exact hswitch
  | withdraw => exact hwithdraw
  | hold => exact hhold
  | resume => exact hresume
  | traceRead => exact htrace
  | countRead => exact hcount
  | noteAck => exact hack
  | noteConfig => exact hnotes
  | passConfig => exact hpass

theorem modeView_answerBroadcast (f : FrameBytes) (a : Answer) :
    modeView (answerBroadcast f a) = modeView a.state := by
  unfold answerBroadcast
  dsimp only
  split
  · rfl
  · rw [report_eq]; rfl

theorem modeView_answerRequest (f : FrameBytes) (a : Answer) : modeView (answerRequest f a) = modeView a.state := rfl

theorem modeView_runOp {o : Op} (ho : o ≠ .syncConfig) (f : FrameBytes) (s : State) :
    modeView (runOp o (ownerOf o) f s) = modeView s := by
  have hchecked : modeView (checked o (ownerOf o) f s).state = modeView s := by
    unfold checked
    split
    · exact modeView_ownerOf ho _ s
    · rfl
  unfold runOp
  split
  · exact (modeView_answerBroadcast f _).trans hchecked
  · exact (modeView_answerRequest f _).trans hchecked

theorem modeView_runOf {r : Row} (hr : r ≠ .op .syncConfig) (f : FrameBytes) (s : State) :
    modeView (runOf r f s) = modeView s := by
  cases r with
  | replay =>
    show modeView (replayRequest s) = _
    unfold replayRequest
    dsimp only
    split <;> rfl
  | ignore => rfl
  | unknown => rfl
  | op o =>
    cases o with
    | syncConfig => exact absurd rfl hr
    | restart =>
      show modeView (runRestart f s) = _
      unfold runRestart
      split <;> rfl
    | _ => exact modeView_runOp (by simp) f s

/-! ### SYNC_CONFIG (R77) -/

/-- The state is FREE, or ENABLE is on. -/
def FreeOrEnabled (s : State) : Prop := s.sync.mode = .free ∨ s.sync.settings.enable = true

theorem freeOrEnabled_of_view {s t : State} (h : FreeOrEnabled s) (hv : modeView t = modeView s) :
    FreeOrEnabled t := by
  simp only [modeView, Prod.mk.injEq] at hv
  obtain ⟨hmode, hsettings⟩ := hv
  rw [FreeOrEnabled, hmode, hsettings]
  exact h

/-- SYNC_CONFIG with ENABLE off leads to FREE (R77). -/
theorem freeOrEnabled_syncConfig {s : State} (h : FreeOrEnabled s) (a : List Byte) :
    FreeOrEnabled (syncConfigOwner a s).state := by
  unfold syncConfigOwner
  split
  · rename_i n _
    split
    · exact h
    · split
      · exact h
      · obtain ⟨hmode, hsettings⟩ := configuredSync_fields s.sync n (adjustment s)
        have hconfigured : FreeOrEnabled { s with sync := configuredSync s.sync n (adjustment s) } := by
          rw [FreeOrEnabled, hmode, hsettings]
          unfold configuredMode
          cases n.enable <;> simp
        refine freeOrEnabled_of_view hconfigured ((modeView_of_lengthView (lengthView_gateEnds s _)).trans ?_)
        rw [reportSync_eq]
        rfl
  · exact h

theorem freeOrEnabled_runSyncConfig {s : State} (h : FreeOrEnabled s) (f : FrameBytes) :
    FreeOrEnabled (runOf (.op .syncConfig) f s) := by
  have hchecked : FreeOrEnabled (checked .syncConfig syncConfigOwner f s).state := by
    unfold checked
    split
    · exact freeOrEnabled_syncConfig h _
    · exact h
  show FreeOrEnabled (runOp .syncConfig syncConfigOwner f s)
  unfold runOp
  split
  · exact freeOrEnabled_of_view hchecked (modeView_answerBroadcast f _)
  · exact freeOrEnabled_of_view hchecked (modeView_answerRequest f _)

/-- A SYNC_CONFIG is addressed to the part: broadcast executes none (R136, R145). -/
theorem frame_of_syncConfig_row {m : Mgmt} {f : FrameBytes} (h : rowOf m f = .op .syncConfig) :
    destOf f ≠ 127 ∧ (payloadOf f).head? = some 0x11 := by
  have hcode : ∀ b : Byte, Op.ofByte b = some .syncConfig → b = 0x11 := by decide
  have hop : ∀ o, opOf f = some o → o = .syncConfig → (payloadOf f).head? = some 0x11 := by
    rintro o ho rfl
    unfold opOf at ho
    split at ho
    · cases ho
    · rename_i b l hp
      rw [hp, hcode b ho]
      rfl
  unfold rowOf at h
  split at h
  · split at h
    · rename_i o ho
      cases o <;> cases h
    · cases h
  · rename_i hdest
    split at h
    · cases h
    · split at h
      · rename_i o ho
        injection h with h
        exact ⟨by simpa [isBroadcast, broadcastAddr] using hdest, hop o ho h⟩
      · cases h

/-! ### Where FREE is left (R129) -/

/-- The state is FREE, or ENABLE is on and one of the requests in `input` is a SYNC_CONFIG. -/
def Configured (input : List FrameBytes) (s : State) : Prop :=
  s.sync.mode = .free ∨
    s.sync.settings.enable = true ∧ ∃ f ∈ input, destOf f ≠ 127 ∧ (payloadOf f).head? = some 0x11

theorem configured_of_view {input : List FrameBytes} {s t : State} (h : Configured input s)
    (hv : modeView t = modeView s) : Configured input t := by
  simp only [modeView, Prod.mk.injEq] at hv
  obtain ⟨hmode, hsettings⟩ := hv
  rw [Configured, hmode, hsettings]
  exact h

/-- The request taken is the SYNC_CONFIG, or the sync state and the settings stay (R129). -/
theorem configured_runOf {input : List FrameBytes} {s : State} {f : FrameBytes} (hf : f ∈ input)
    (h : Configured input s) :
    Configured input (conclude s (runOf (rowOf s.mgmt f) f (takeHead s))) := by
  have hconclude : ∀ u, modeView (conclude s u) = modeView u := fun u => modeView_of_lengthView (lengthView_conclude s u)
  by_cases hr : rowOf s.mgmt f = .op .syncConfig
  · have hfree : FreeOrEnabled (takeHead s) := h.imp_right And.left
    refine configured_of_view ?_ (hconclude _)
    rw [hr]
    exact (freeOrEnabled_runSyncConfig hfree f).imp_right fun he => ⟨he, f, hf, frame_of_syncConfig_row hr⟩
  · exact configured_of_view h ((hconclude _).trans (modeView_runOf hr f (takeHead s)))

/-- The same, for a clock step: no other request than those of `input` waits. -/
def ConfiguredFrom (input : List FrameBytes) (s : State) : Prop :=
  Configured input s ∧ ∀ f ∈ s.mgmt.input, f ∈ input

theorem configuredFrom_of_views {input : List FrameBytes} {s t : State} (h : ConfiguredFrom input s)
    (hl : lengthView t = lengthView s) (hc : clockView t = clockView s) : ConfiguredFrom input t := by
  have hinput : t.mgmt.input = s.mgmt.input := congrArg (fun v => v.2.2) hc
  exact ⟨configured_of_view h.1 (modeView_of_lengthView hl), hinput ▸ h.2⟩

theorem lengthView_finishD (s : State) : lengthView (finishD s) = lengthView s := by
  unfold finishD
  split
  · rename_i t _
    split
    · rw [lengthView_conclude, completeD_eq]
      cases t.source <;> rfl
    · rfl
  · rfl

theorem lengthView_finishEngine (s : State) : lengthView (finishEngine s) = lengthView s := by
  unfold finishEngine
  split
  · rw [lengthView_conclude]
    exact engineEvent_keeps (I := fun t => lengthView t = lengthView s) (fun hs => (lengthView_closeWindow _).trans hs)
      (fun hs => (lengthView_takeSlot _).trans hs) rfl
  · rfl

theorem lengthView_dropCyc (s : State) : lengthView (dropCyc s) = lengthView s := by
  unfold dropCyc
  split <;> rfl

/-- A completion on port U leaves the sync unit and the input queue, or a restart leads to FREE with an empty queue
(R79, R141, R143). -/
theorem configuredFrom_finishU {input : List FrameBytes} {s : State} (h : ConfiguredFrom input s) :
    ConfiguredFrom input (finishU s) := by
  have hconclude : ∀ {u}, ConfiguredFrom input u → ConfiguredFrom input (conclude s u) := fun hu =>
    configuredFrom_of_views hu (lengthView_conclude s _) (clockView_conclude s _)
  have hfreed : (replyFreed s.mgmt).input = s.mgmt.input := by rw [replyFreed_eq]; rfl
  unfold finishU
  split
  · rename_i t _
    split
    · refine hconclude ?_
      rcases completeU_cases t s with ⟨x, -, he⟩ | ⟨-, he | he | ⟨-, he⟩⟩ | ⟨-, he⟩ <;> rw [he]
      · exact configuredFrom_of_views h rfl rfl
      · exact configuredFrom_of_views h rfl rfl
      · exact ⟨.inl rfl, fun f hf => by cases hf⟩
      · exact ⟨h.1, fun f hf => h.2 f (hfreed ▸ hf)⟩
      · exact configuredFrom_of_views h rfl rfl
    · exact h
  · exact h

theorem configuredFrom_finishD {input : List FrameBytes} {s : State} (h : ConfiguredFrom input s) :
    ConfiguredFrom input (finishD s) := configuredFrom_of_views h (lengthView_finishD s) (clockView_finishD s)

theorem configuredFrom_finishPort {input : List FrameBytes} {s : State} (h : ConfiguredFrom input s) (p : Port) :
    ConfiguredFrom input (finishPort p s) := by
  cases p with
  | u => exact configuredFrom_finishU h
  | d => exact configuredFrom_finishD h

theorem configuredFrom_settleClock {input : List FrameBytes} {s : State} (h : ConfiguredFrom input s) :
    ConfiguredFrom input (settleClock s) := by
  have hengine := configuredFrom_of_views (configuredFrom_finishU (configuredFrom_finishD h))
    (lengthView_finishEngine _) (clockView_finishEngine _)
  exact configuredFrom_of_views hengine (lengthView_dropCyc _) (clockView_dropCyc _)

theorem configuredFrom_takeWaiting {input : List FrameBytes} {s : State} (h : ConfiguredFrom input s) :
    ConfiguredFrom input (takeWaiting s) := by
  refine takeWaiting_induction h fun u hu hn => ?_
  obtain ⟨f, hf⟩ := Option.ne_none_iff_exists'.1 hn
  obtain ⟨-, -, rest, hin⟩ := nextRequest_some hf
  obtain ⟨hconfigured, hinput⟩ := hu
  refine ⟨?_, fun g hg => ?_⟩
  · rw [takeOldest_eq hf]
    exact configured_runOf (hinput f (by simp [hin])) hconfigured
  · have htail : (takeOldest u).mgmt.input = u.mgmt.input.tail := congrArg (fun v => v.2.2) (clockView_takeOldest hf)
    rw [htail] at hg
    exact hinput g (List.mem_of_mem_tail hg)

theorem configuredFrom_comeToWrap {input : List FrameBytes} {s : State} (h : ConfiguredFrom input s) :
    ConfiguredFrom input (comeToWrap s) := h

theorem configuredFrom_advance {input : List FrameBytes} {s : State} (h : ConfiguredFrom input s) :
    ConfiguredFrom input (advance s) := h

theorem configuredFrom_tickEvent {input : List FrameBytes} {s : State} (h : ConfiguredFrom input s) :
    ConfiguredFrom input (tickEvent s) := by
  have hsettle : ConfiguredFrom input (settle s) := configuredFrom_takeWaiting (configuredFrom_settleClock h)
  rcases tickEvent_cases s with ⟨-, he⟩ | ⟨-, -, he⟩ | ⟨-, -, he⟩ <;> rw [he]
  · exact h
  · exact configuredFrom_comeToWrap hsettle
  · exact configuredFrom_advance hsettle

theorem configuredFrom_settleBefore {input : List FrameBytes} {s : State} (h : ConfiguredFrom input s)
    (order : List WrapAct) : ConfiguredFrom input (settleBefore order s) := by
  obtain ⟨t, ht, he⟩ := settleBefore_cases order s
  have hclock : ConfiguredFrom input t := by
    rcases ht with ⟨-, rfl⟩ | ⟨-, rfl⟩
    · exact h
    · exact configuredFrom_settleClock h
  rcases he with ⟨-, he⟩ | ⟨-, he⟩ <;> rw [he]
  · exact hclock
  · exact configuredFrom_takeWaiting hclock

/-- A wrap does not leave FREE, and changes no setting (R66). -/
theorem configured_wrapEvent {input : List FrameBytes} {s : State} (h : Configured input s) (order : List WrapAct) :
    Configured input (wrapEvent order s) := by
  obtain ⟨hmode, hsettings⟩ := syncAfterWrap_fields s.sync (ending s) (evaluate s.sync (ending s)) (wrapPlan s).length
  rw [Configured, sync_wrapEvent, hmode, hsettings]
  rcases h with hfree | henabled
  · exact .inl (by rw [evaluate_free _ hfree])
  · exact .inr henabled

theorem configured_clocked {s t : State} (hfree : s.sync.mode = .free) (h : Clocked s t) :
    Configured s.mgmt.input t := by
  have hs : ConfiguredFrom s.mgmt.input s := ⟨.inl hfree, fun _ hf => hf⟩
  cases h with
  | idle => exact .inl hfree
  | complete p => exact (configuredFrom_finishPort hs p).1
  | completeWithWrap p => exact (configuredFrom_finishPort (configuredFrom_tickEvent hs) p).1
  | tick => exact (configuredFrom_tickEvent hs).1
  | powerTick => exact .inl hfree
  | wrap order =>
    refine configured_wrapEvent ?_ order
    have hbefore := configuredFrom_settleBefore hs order
    rcases reachWrap_cases (settleBefore order s) with ⟨-, -, he⟩ | ⟨-, he⟩ <;> rw [he]
    · exact (configuredFrom_comeToWrap hbefore).1
    · exact hbefore.1

theorem requestRow_syncConfig {c : Instr} (h : requestRow c = some (.op .syncConfig)) : c = .syncConfig := by
  cases c with
  | syncConfig => rfl
  | _ => cases h

/-- Apart from the steps of the reference clock, SYNC_CONFIG's own step alone leaves FREE. -/
theorem configured_unclocked {c : Instr} {s t : State} (hfree : s.sync.mode = .free) (h : Unclocked c s t) :
    t.sync.mode = .free ∨ c = .syncConfig ∧ Configured s.mgmt.input t := by
  have hview : ∀ {u : State}, lengthView u = lengthView s → u.sync.mode = .free := fun hu =>
    (congrArg Prod.fst hu).trans hfree
  have hconclude : ∀ {u : State}, lengthView u = lengthView s → (conclude s u).sync.mode = .free := fun hu =>
    hview ((lengthView_conclude s _).trans hu)
  cases h with
  | idle => exact .inl hfree
  | powerOn taken =>
    obtain ⟨c, -, rfl | ⟨-, rfl⟩ | rfl⟩ := execPowerOn_cases taken <;> exact .inl hfree
  | powerOnComplete => exact .inl (congrArg Prod.fst (lengthView_firstReports _ _ _ _))
  | link p l => exact .inl (hconclude ((lengthView_lines _).link p l rfl))
  | byte p b => exact .inl (hview ((lengthView_lines _).byte p b rfl))
  | header p b => exact .inl (hconclude ((lengthView_lines _).header p b rfl))
  | frameEnd p b => exact .inl (hconclude ((lengthView_lines _).frameEnd p b rfl))
  | cycFall => exact .inl (hview (lengthView_dropCyc s))
  | engine => exact .inl (hview (lengthView_finishEngine s))
  | @request f r own next row =>
    by_cases hr : r = .op .syncConfig
    · obtain ⟨-, -, rest, hin⟩ := nextRequest_some next
      subst row
      refine .inr ⟨?_, configured_runOf (by simp [hin]) (.inl hfree)⟩
      rw [hr] at own
      exact requestRow_syncConfig own
    · have hmode := (modeView_of_lengthView (lengthView_conclude s _)).trans (modeView_runOf hr f (takeHead s))
      exact .inl ((congrArg Prod.fst hmode).trans hfree)

/-- Settles O27. -/
theorem freeMakesNoAdjustment : Obligations.FreeMakesNoAdjustment := by
  refine ⟨fun s order h hfree => ?_, fun c s t hfree he => ?_⟩
  · obtain ⟨htimer, hsync⟩ := wrap_timer_sync h
    refine ⟨_, exec_wrap_of_atWrap h, htimer.trans ?_, hsync.trans (syncAfterWrap_free _ _ hfree)⟩
    rw [evaluate_free _ hfree]
    exact adjustedCycle_none s
  · by_cases hc : ClockStep c
    · exact (configured_clocked hfree (exec_clocked hc he)).imp_right fun h => ⟨.inr hc, h⟩
    · rcases configured_unclocked hfree (exec_unclocked hc he) with hf | ⟨hcfg, hf | hleft⟩
      · exact .inl hf
      · exact .inl hf
      · exact .inr ⟨.inl hcfg, hleft⟩

end Sys2Proof.Cycles
end

section
/-! PROOF. The SYNC_STATE record of a wrap, followed from the sync unit's action to the end of the wrap (R65, R150, R153,
R158, R160). -/

namespace Sys2Proof.Cycles

open Sys2Proof.Machine Sys2Proof.Safety Sys2Proof.Claims Sys2Proof.Link Sys2Proof.Invariants Sys2Proof.Wraps

/-! ### A record that stays in the note queue -/

/-- A record of the occurrence is queued, begun in cycle `c`. -/
def Recorded (o : Occurrence) (c : Cycle) (n : Notes) : Prop := ∃ r ∈ n.queue, r.occ = o ∧ r.first = c

/-- A record of the occurrence is queued that no transmission has taken yet. -/
def RecordWaits (o : Occurrence) (c : Cycle) (n : Notes) : Prop :=
  ∃ r ∈ n.queue, r.occ = o ∧ r.first = c ∧ r.state = .waiting

theorem RecordWaits.recorded {o : Occurrence} {c : Cycle} {n : Notes} (h : RecordWaits o c n) : Recorded o c n := by
  obtain ⟨r, hr, hocc, hfirst, -⟩ := h
  exact ⟨r, hr, hocc, hfirst⟩

/-- Whether an occurrence coalesces is a matter of its kind (R150). -/
theorem coalesces_of_kind {o o' : Occurrence} (h : o.kind = o'.kind) : o.coalesces = o'.coalesces := by
  unfold Occurrence.coalesces
  rw [h]

/-- Recording an occurrence folds nothing into a record whose kind does not coalesce (R153). -/
theorem recordOccurrence_mem {r : NoteRecord} {n : Notes} (hr : r ∈ n.queue) (hkind : r.occ.coalesces = false)
    (o : Occurrence) (c : Cycle) : r ∈ (recordOccurrence o c n).queue := by
  have happend : r ∈ (appendOrLose o c n).queue := by
    unfold appendOrLose
    split
    · exact List.mem_append_left _ hr
    · exact hr
  unfold recordOccurrence
  cases ho : o.coalesces with
  | false => exact happend
  | true =>
    cases hq : coalesceInto o c n.queue with
    | none => simpa [hq] using happend
    | some q =>
      obtain ⟨pre, x, post, hsplit, -, htakes, rfl⟩ := coalesceInto_some hq
      have hx : r ≠ x := by
        rintro rfl
        simp only [takesOccurrence, Bool.and_eq_true, beq_iff_eq] at htakes
        obtain ⟨⟨-, hsame⟩, -⟩ := htakes
        rw [coalesces_of_kind hsame, ho] at hkind
        cases hkind
      rw [hsplit] at hr
      show r ∈ pre ++ foldInto o c x :: post
      rcases List.mem_append.1 hr with hm | hm
      · exact List.mem_append_left _ hm
      · exact List.mem_append_right _ (List.mem_cons_of_mem _ ((List.mem_cons.1 hm).resolve_left hx))

section Kept

variable {o : Occurrence} {c : Cycle} (ho : o.coalesces = false)
include ho

theorem recordWaits_report {s : State} (h : RecordWaits o c s.notes) (o' : Occurrence) :
    RecordWaits o c (report o' s).notes := by
  rcases report_notes o' s with he | he <;> rw [he]
  · exact h
  · obtain ⟨r, hr, hocc, hfirst, hstate⟩ := h
    exact ⟨r, recordOccurrence_mem hr (hocc ▸ ho) _ _, hocc, hfirst, hstate⟩

omit ho in
/-- The note unit's action at a wrap moves a record only if it awaits an acknowledgement (R160). -/
theorem recordWaits_notesAct {n : Notes} (h : RecordWaits o c n) (now : Cycle) : RecordWaits o c (notesAct now n) := by
  obtain ⟨r, hr, hocc, hfirst, hstate⟩ := h
  have hkept : ∀ {m : Notes}, r ∈ m.queue → RecordWaits o c m := fun hm => ⟨r, hm, hocc, hfirst, hstate⟩
  have hleaves : ∀ {m : Notes} {x : NoteRecord} {rs : List NoteRecord}, m.queue = x :: rs → r ∈ rs →
      r ∈ (headLeaves now m).queue := by
    intro m x rs hm hrs
    rcases headLeaves_queue now m with he | ⟨he, -⟩ <;> rw [he, hm]
    · exact hrs
    · exact List.mem_append_left _ hrs
  unfold notesAct
  cases hq : n.queue with
  | nil => rw [hq] at hr; cases hr
  | cons x rs =>
    dsimp only
    by_cases hx : x.state = .awaitingAck
    · have htail : r ∈ rs := by
        rw [hq] at hr
        refine (List.mem_cons.1 hr).resolve_left fun he => ?_
        rw [he, hx] at hstate
        cases hstate
      split
      · split
        · exact hkept (List.mem_cons_of_mem _ htail)
        · exact hkept (hleaves rfl htail)
      · exact hkept (List.mem_cons_of_mem _ htail)
    · have hout : timesOut n x = false := by simp [timesOut, hx]
      rw [hout, if_neg Bool.false_ne_true, if_neg hx]
      exact hkept hr

theorem recordWaits_closeWindow {s : State} (h : RecordWaits o c s.notes) :
    RecordWaits o c (closeWindow s).notes := by
  have hend : ∀ t : State, (endWindow t).notes = t.notes := by
    intro t
    rcases endWindow_eq t with ⟨-, he⟩ | ⟨w, -, he⟩ <;> rw [he]
  unfold closeWindow
  rw [hend]
  unfold missedCheck
  split
  · split
    · exact recordWaits_report ho (by exact h) _
    · exact h
  · exact h

theorem recordWaits_planAct (k : WrapPlan) {s : State} (h : RecordWaits o c s.notes) :
    RecordWaits o c (planAct k s).notes := by
  unfold planAct
  split
  · unfold expireHold
    exact recordWaits_report ho (by exact h) _
  · dsimp only
    split
    · unfold takeSwitch
      exact recordWaits_report ho (by exact h) _
    · exact h

theorem recordWaits_age (i : StreamId) {s : State} (h : RecordWaits o c s.notes) :
    RecordWaits o c (ageStream i (fun n => reportTimes n (.stale i)) s).notes := by
  have hreports : ∀ n {t : State}, RecordWaits o c t.notes → RecordWaits o c (reportTimes n (.stale i) t).notes :=
    fun n _ ht => reportTimes_keeps (I := fun t => RecordWaits o c t.notes) (fun o' hu => recordWaits_report ho hu o')
      n _ ht
  rcases ageStream_cases i (fun n => reportTimes n (.stale i)) s with he | ⟨-, n, f, he⟩ <;> rw [he]
  · exact hreports 0 h
  · rw [withdrawIfEmpty_eq]
    refine hreports n ?_
    rw [freeBufs_eq]
    exact h

/-- The blocks' actions but the sync unit's leave a waiting record of a kind that does not coalesce. -/
theorem recordWaits_wrapAct (before : State) (k : WrapPlan) {a : WrapAct} (ha : a ∈ defaultOrder.tail) {s : State}
    (h : RecordWaits o c s.notes) : RecordWaits o c (wrapAct before k a s).notes := by
  have hcases : a = .plan ∨ a = .close ∨ (∃ i, a = .age i) ∨ a = .notes := by
    have hm : a = .plan ∨ a = .close ∨ (∃ i, WrapAct.age i = a) ∨ a = .notes := by
      simpa [defaultOrder] using ha
    exact hm.imp_right (Or.imp_right (Or.imp_left fun ⟨i, hi⟩ => ⟨i, hi.symm⟩))
  rcases hcases with rfl | rfl | ⟨i, rfl⟩ | rfl
  · exact recordWaits_planAct ho k h
  · exact recordWaits_closeWindow ho h
  · exact recordWaits_age ho i h
  · exact recordWaits_notesAct h _

end Kept

/-- A note granted stays in the queue while it is sent (R158). -/
theorem recorded_arbiterU {o : Occurrence} {c : Cycle} {s : State} (h : Recorded o c s.notes) :
    Recorded o c (arbiterU s).notes := by
  rcases arbiterU_cases s with he | ⟨-, ⟨b, q, -, he⟩ | ⟨r, he⟩ | ⟨x, hx, he⟩⟩ <;> rw [he]
  · exact h
  · exact h
  · exact h
  · obtain ⟨r, hr, hocc, hfirst⟩ := h
    have hqueue : s.notes.queue = x :: s.notes.queue.tail := by
      unfold noteOffered at hx
      split at hx
      · rename_i y rs hq
        split at hx
        · cases hx; rw [hq]; rfl
        · cases hx
      · cases hx
    show Recorded o c (notesGranted s.notes x s.notes.queue.tail)
    rw [hqueue] at hr
    rcases List.mem_cons.1 hr with rfl | htail
    · exact ⟨sentRecord s.notes r, List.mem_cons_self, hocc, hfirst⟩
    · exact ⟨r, List.mem_cons_of_mem _ htail, hocc, hfirst⟩

theorem recorded_arbiterD {o : Occurrence} {c : Cycle} {s : State} (h : Recorded o c s.notes) :
    Recorded o c (arbiterD s).notes := by
  rw [arbiterD_eq]; exact h

theorem recorded_conclude {o : Occurrence} {c : Cycle} (before : State) {s : State} (h : Recorded o c s.notes) :
    Recorded o c (conclude before s).notes := by
  have hD : Recorded o c (if invokesD before s then arbiterD s else s).notes := by
    split
    · exact recorded_arbiterD h
    · exact h
  unfold conclude
  dsimp only
  split
  · exact recorded_arbiterU hD
  · exact hD

/-! ### The record made at the wrap (R65, R150) -/

/-- With room in the queue a SYNC_STATE occurrence is appended (R153, case 2). -/
theorem recordWaits_syncState {s : State} (haddr : HasAddress s) (hmask : s.notes.mask.getLsbD 5 = true)
    (hroom : s.notes.queue.length < 16) (old new : SyncMode) :
    RecordWaits (.syncState old new) s.timer.cycle (report (.syncState old new) s).notes := by
  have henabled : (s.addressed && (Occurrence.syncState old new).enabled s.notes.mask) = true := by
    simp [(addressed_iff s).2 haddr, Occurrence.enabled, Occurrence.kind, hmask]
  have happended : recordOccurrence (.syncState old new) s.timer.cycle s.notes =
      { s.notes with queue := s.notes.queue ++ [freshRecord (.syncState old new) s.timer.cycle] } := if_pos hroom
  unfold report
  rw [if_pos henabled, happended]
  exact ⟨freshRecord _ _, List.mem_append_right _ List.mem_cons_self, rfl, rfl, rfl⟩

theorem recordWaits_syncAct (k : WrapPlan) {s : State} (haddr : HasAddress s) (hmask : s.notes.mask.getLsbD 5 = true)
    (hroom : s.notes.queue.length < 16) (hchange : k.evaluation.mode ≠ s.sync.mode) :
    RecordWaits (.syncState s.sync.mode k.evaluation.mode) s.timer.cycle (syncAct k s).notes := by
  have hmode := (syncAfterWrap_fields s.sync k.ending k.evaluation k.length).1
  unfold syncAct
  dsimp only
  rw [gateEnds_eq]
  unfold reportSync
  dsimp only
  rw [if_neg (by rw [hmode]; exact hchange), hmode]
  exact recordWaits_syncState (s := { s with sync := syncAfterWrap s.sync k.ending k.evaluation k.length }) haddr hmask
    hroom _ _

/-- In the default order the sync unit acts first, so that its report meets the room that the wrap found. -/
theorem recorded_wrapEvent {s : State} (haddr : HasAddress s) (hmask : s.notes.mask.getLsbD 5 = true)
    (hroom : s.notes.queue.length < 16) (hchange : (wrapPlan s).evaluation.mode ≠ s.sync.mode) :
    Recorded (.syncState s.sync.mode (wrapPlan s).evaluation.mode) (wrapPlan s).number (wrapEvent [] s).notes := by
  have hsync : RecordWaits (.syncState s.sync.mode (wrapPlan s).evaluation.mode) (wrapPlan s).number
      (syncAct (wrapPlan s) (beginCycle (wrapPlan s) s)).notes :=
    recordWaits_syncAct (wrapPlan s) (s := beginCycle (wrapPlan s) s) haddr hmask hroom hchange
  have horder : fullOrder [] defaultOrder = [] ++ .sync :: defaultOrder.tail := rfl
  have hacted : RecordWaits (.syncState s.sync.mode (wrapPlan s).evaluation.mode) (wrapPlan s).number
      (acted s (wrapPlan s) (fullOrder [] defaultOrder) (beginCycle (wrapPlan s) s)).notes := by
    rw [horder, acted_append]
    exact acted_keeps (I := fun t => RecordWaits _ _ t.notes) (fun a ha _ ht => recordWaits_wrapAct rfl s _ ha ht) hsync
  have hnotes : (wrapBlocks [] s).notes =
      (acted s (wrapPlan s) (fullOrder [] defaultOrder) (beginCycle (wrapPlan s) s)).notes := by rw [wrapBlocks_eq]
  have hblocks : RecordWaits (.syncState s.sync.mode (wrapPlan s).evaluation.mode) (wrapPlan s).number
      (wrapBlocks [] s).notes := by
    rw [hnotes]
    exact hacted
  have hnew : Recorded (.syncState s.sync.mode (wrapPlan s).evaluation.mode) (wrapPlan s).number
      (newCycle [] s).notes := by
    unfold newCycle
    rcases decideU_cases s (arbiterD (wrapBlocks [] s)) with ⟨-, he⟩ | ⟨-, he⟩ <;> rw [he]
    · exact recorded_arbiterU (recorded_arbiterD hblocks.recorded)
    · exact recorded_arbiterD hblocks.recorded
  rcases wrapEvent_cases [] s with he | ⟨-, he⟩ <;> rw [he]
  · exact hnew
  · refine recorded_conclude _ ?_
    rw [takeSlot_eq]
    exact hnew

/-- Settles O31. -/
theorem syncChangeReportedAtWrap : Obligations.SyncChangeReportedAtWrap := by
  intro s h haddr hmask hroom
  have hsync : (reachWrap s).sync = s.sync := by rw [reachWrap_of_atWrap h]
  have hnotes : (reachWrap s).notes = s.notes := by rw [reachWrap_of_atWrap h]
  have hmode : (wrapEvent [] (reachWrap s)).sync.mode = (wrapPlan (reachWrap s)).evaluation.mode := by
    rw [sync_wrapEvent]
    exact (syncAfterWrap_fields _ _ _ _).1
  have haddr' : HasAddress (reachWrap s) := by rw [reachWrap_of_atWrap h]; exact haddr
  refine ⟨_, exec_wrap_of_atWrap h, fun hchange => ?_⟩
  rw [hmode, ← hsync] at hchange
  rw [hmode, ← hsync, timer_wrapEvent]
  exact recorded_wrapEvent haddr' (hnotes ▸ hmask) (hnotes ▸ hroom) hchange

end Sys2Proof.Cycles
end

section
/-! PROOF. A request answered in any number of reply frames, and the requests that read: IDENT, SYNC_READ and TRACE_READ
(R32, R75, R78, R100, R128 to R134, R138, R144, R145, R147). -/

namespace Sys2Proof.Requests

open Sys2Proof.Machine Sys2Proof.Safety Sys2Proof.Claims Sys2Proof.Link Sys2Proof.Invariants

/-! ### IDENT and SYNC_READ (R78, R138) -/

theorem planMode_code (m : PlanMode) : m.code = planCode m := by cases m <;> rfl

theorem identBytes_eq (s : State) : identBytes s = identResult s := by
  have hstreams : validStreams s = s.streams.toList.countP fun x => x.valid := by
    unfold validStreams
    rw [List.countP_eq_length_filter]
  unfold identBytes identResult
  rw [planMode_code, syncMode_code, nodeAddr_byte, hstreams, freeCount_eq, bytesBE_four]
  rfl

theorem captureBytes_eq (y : Sync) :
    captureBytes y.capture =
      match y.capture with
      | some c => [1] ++ be4 c.offset ++ be4 c.localCycle.toNat ++ be4 c.markNumber.toNat ++ [yesNo c.double]
      | none => List.replicate 14 0 := by
  cases y.capture with
  | none => rfl
  | some c =>
    unfold captureBytes
    simp only [bytesBE_four]
    rfl

theorem syncBytes_eq (s : State) : syncBytes s = syncReadResult s := by
  unfold syncBytes syncReadResult
  rw [syncMode_code, captureBytes_eq]
  simp only [bytesBE_four] <;> rfl

/-- Settles O36. -/
theorem identAndSyncReadAnswer : Obligations.IdentAndSyncReadAnswer := fun s _ _ ha =>
  ⟨fun hr => congrArg Host.Outcome.next (execOp_eq ha hr rfl rfl (answersAs_read s .ok (identBytes_eq s))),
    fun hr => congrArg Host.Outcome.next (execOp_eq ha hr rfl rfl (answersAs_read s .ok (syncBytes_eq s)))⟩

/-! ### An answer of any number of frames (R128, R132 to R134) -/

/-- `u` with the request gone from the input queue, `frames` placed and cached, and the execution counted. -/
def answeredWith (u : State) (f : FrameBytes) (rest : List FrameBytes) (frames : List FrameBytes) : State :=
  { u with
    mgmt :=
      { u.mgmt with
        mode := if u.mgmt.outbox.length + frames.length < 2 then .ready else .stalled
        input := rest
        outbox := u.mgmt.outbox ++
          (frames.map fun b => ({ bytes := b, ofRestart := false } : Reply)).take (2 - u.mgmt.outbox.length)
        parts := (frames.map fun b => ({ bytes := b, ofRestart := false } : Reply)).drop (2 - u.mgmt.outbox.length)
        cache := some { tag := tagOf f, payload := payloadOf f, replies := frames }
        counters := { u.mgmt.counters with requestsExecuted := u.mgmt.counters.requestsExecuted + 1 } } }

/-- What the management unit must hold for replies to be placed: what it held when the request was taken. -/
structure Placing (s u : State) : Prop where
  nodeAddr : u.nodeAddr = s.nodeAddr
  input : u.mgmt.input = s.mgmt.input
  outbox : u.mgmt.outbox = s.mgmt.outbox
  parts : u.mgmt.parts = s.mgmt.parts

theorem Placing.refl (s : State) : Placing s s := ⟨rfl, rfl, rfl, rfl⟩

/-- Replies placed where the outbox has room and no part waits (R128, R132, R133). -/
theorem settleUnit_placeAll {m : Mgmt} (hroom : m.outbox.length < 2) (hparts : m.parts = []) (rs : List Reply) :
    settleUnit (placeReplies rs m) =
      { m with
        mode := if m.outbox.length + rs.length < 2 then .ready else .stalled
        outbox := m.outbox ++ rs.take (2 - m.outbox.length)
        parts := rs.drop (2 - m.outbox.length) } := by
  have hplaced : placeReplies rs m = { m with
      outbox := m.outbox ++ rs.take (2 - m.outbox.length), parts := rs.drop (2 - m.outbox.length) } := by
    unfold placeReplies
    rw [hparts]
    rfl
  have hmode : unitByRoom { m with
      outbox := m.outbox ++ rs.take (2 - m.outbox.length), parts := rs.drop (2 - m.outbox.length) } =
      if m.outbox.length + rs.length < 2 then .ready else .stalled := by
    unfold unitByRoom
    dsimp only
    rw [List.length_append, List.length_take]
    by_cases hfit : m.outbox.length + rs.length < 2
    · have hdrop : rs.drop (2 - m.outbox.length) = [] := List.drop_eq_nil_iff.2 (by omega)
      have hlow : ¬ Config.outboxCapacity ≤ m.outbox.length + min (2 - m.outbox.length) rs.length := by
        show ¬ 2 ≤ _
        omega
      simp [hfit, hdrop, hlow]
    · have hfull : Config.outboxCapacity ≤ m.outbox.length + min (2 - m.outbox.length) rs.length := by
        show 2 ≤ _
        omega
      simp [hfit, hfull]
  unfold settleUnit
  rw [hplaced, hmode]

section

variable {s : State} {f : FrameBytes} {rest : List FrameBytes} {op : Byte} {args : List Byte}

theorem answerRequest_frames (hr : Request s f rest op args) {a : Answer} {u : State} (hstate : a.state = takeHead u)
    (hu : Placing s u) :
    answerRequest f a = answeredWith u f rest (a.results.map (replyBytes s.nodeAddr (tagOf f) op a.status.code)) := by
  obtain ⟨hnode, hinput, houtbox, hparts⟩ := hu
  obtain ⟨⟨-, -, hhead, hroom, hnone⟩, hpayload, -⟩ := hr
  have hframes : replyFrames a.state.nodeAddr f a =
      a.results.map (replyBytes s.nodeAddr (tagOf f) op a.status.code) := by
    have hop : opByte f = op := by unfold opByte; rw [hpayload]; rfl
    have haddr : a.state.nodeAddr = s.nodeAddr := by rw [hstate]; exact hnode
    unfold replyFrames
    rw [haddr, hop]
    exact List.map_congr_left fun r _ => replyFrame_eq _ _ _ _ _
  have hrest : u.mgmt.input.tail = rest := by rw [hinput, hhead]; rfl
  show { countExecuted a.state with
      mgmt := settleUnit (placeReplies ((replyFrames a.state.nodeAddr f a).map fun b => { bytes := b, ofRestart := false })
        { (countExecuted a.state).mgmt with
          cache := some { tag := tagOf f, payload := payloadOf f, replies := replyFrames a.state.nodeAddr f a } }) } = _
  rw [← houtbox] at hroom
  have hplaced (c : Option CacheEntry) (rs : List Reply) :=
    settleUnit_placeAll (m := { (countExecuted (takeHead u)).mgmt with cache := c }) hroom (hparts.trans hnone) rs
  rw [hframes, hstate, hplaced, List.length_map]
  unfold answeredWith
  rw [← hrest]
  rfl

/-- One frame answered, in the words of the statements. -/
theorem answeredWith_single (hr : Request s f rest op args) {v : Verdict} (hu : Placing s v.state) :
    answeredWith v.state f rest [replyBytes s.nodeAddr (tagOf f) op v.status v.result] = answered s f rest op v := by
  obtain ⟨-, -, houtbox, hparts⟩ := hu
  have hroom := hr.takes.room
  have hnone : v.state.mgmt.parts = [] := hparts.trans hr.takes.parts
  unfold answeredWith answered
  rw [houtbox]
  rcases hout : s.mgmt.outbox with _ | ⟨x, _ | ⟨y, l⟩⟩
  · dsimp only
    rw [hnone]
    rfl
  · dsimp only
    rw [hnone]
    rfl
  · rw [hout] at hroom
    exact absurd hroom (by simp)

/-- The answer of a request that changes nothing else invokes the U transmitter arbiter where it comes into an empty
outbox (R32, R100). -/
theorem conclude_answeredWith {frames : List FrameBytes} (hframes : frames ≠ []) :
    conclude s (answeredWith s f rest frames) = offered s (answeredWith s f rest frames) := by
  have hD : invokesD s (answeredWith s f rest frames) = false := invokesD_of_view_eq rfl
  have hnote : noteAppears s (answeredWith s f rest frames) = false := noteAppears_of_notes_eq rfl
  have hU : invokesU s (answeredWith s f rest frames) = s.mgmt.outbox.isEmpty := by
    obtain ⟨b, bs, rfl⟩ := List.exists_cons_of_ne_nil hframes
    unfold invokesU
    rw [hnote]
    show ((s.txU.isSome && s.txU.isNone) || (s.portU.link == .down && s.portU.link == .up) ||
      (s.stores.back.isEmpty && !s.stores.back.isEmpty) ||
      (s.mgmt.outbox.isEmpty && !(s.mgmt.outbox ++ _).isEmpty) || false) = _
    cases s.txU <;> cases s.portU.link <;> cases s.stores.back <;> cases s.mgmt.outbox <;> rfl
  unfold conclude offered
  rw [hD, hU]
  cases s.mgmt.outbox <;> rfl

end

/-! ### TRACE_READ (R75, R133, R147) -/

theorem traceFlags_byte (adjusted step double present : Bool) :
    BitVec.ofBool true ++ (0 : BitVec 3) ++ BitVec.ofBool adjusted ++ BitVec.ofBool step ++ BitVec.ofBool double ++
        BitVec.ofBool present =
      BitVec.ofNat 8 (128 + (if adjusted then 8 else 0) + (if step then 4 else 0) + (if double then 2 else 0) +
        (if present then 1 else 0)) := by
  revert adjusted step double present
  decide

theorem traceBytes_eq (r : Option TraceRecord) : traceBytes r = traceEntry r := by
  cases r with
  | none => rfl
  | some r =>
    have hdeviation : (BitVec.ofInt 32 r.deviation).toNat = (r.deviation % 4294967296).toNat :=
      BitVec.toNat_ofInt r.deviation
    unfold traceBytes traceEntry
    simp only [bytesBE_two, bytesBE_four, syncMode_code, hdeviation, ← traceFlags_byte]

/-- A run cut into pairs, the last of one entry where the run is odd (R133). -/
theorem inPairs_map_range {α : Type} : ∀ (n : Nat) (g : Nat → α),
    inPairs ((List.range n).map g) =
      (List.range ((n + 1) / 2)).map fun k => g (2 * k) :: (if 2 * k + 1 < n then [g (2 * k + 1)] else [])
  | 0, _ => rfl
  | 1, _ => rfl
  | n + 2, g => by
    have hhalf : (n + 2 + 1) / 2 = (n + 1) / 2 + 1 := by omega
    have hrange : (List.range (n + 2)).map g = g 0 :: g 1 :: (List.range n).map fun k => g (k + 2) := by
      rw [List.range_succ_eq_map, List.range_succ_eq_map]
      simp [Function.comp_def]
    rw [hrange, inPairs, inPairs_map_range n, hhalf, List.range_succ_eq_map, List.map_cons, List.map_map]
    congr 1
    refine List.map_congr_left fun k _ => ?_
    show g (2 * k + 2) :: (if 2 * k + 1 < n then [g (2 * k + 1 + 2)] else []) =
      g (2 * (k + 1)) :: (if 2 * (k + 1) + 1 < n + 2 then [g (2 * (k + 1) + 1)] else [])
    have hiff : 2 * (k + 1) + 1 < n + 2 ↔ 2 * k + 1 < n := by omega
    simp only [hiff]
    rfl

theorem mapIdx_map_range {α β : Type} (h : Nat → α) (g : Nat → α → β) (n : Nat) :
    ((List.range n).map h).mapIdx g = (List.range n).map fun k => g k (h k) := by
  refine List.ext_getElem (by simp) fun k _ _ => ?_
  simp

/-- Each part of the answer: its index, the number of parts, the next SEQ, and its one or two entries (R133). -/
theorem traceParts_eq (y : Sync) (start count : Nat) :
    traceParts y start count = (List.range ((count + 1) / 2)).map (tracePart y start count) := by
  have hentry : ∀ j, traceBytes (y.ring[(start + j) % 32]'(Nat.mod_lt _ (by decide))) =
      traceEntry (y.ring.toList.getD ((start + j) % 32) none) := by
    intro j
    have hj : (start + j) % 32 < y.ring.toList.length := by
      rw [Vector.length_toList]
      exact Nat.mod_lt _ (by decide)
    rw [traceBytes_eq, List.getD_eq_getElem _ _ hj, Vector.getElem_toList]
  have hlength : (inPairs (traceRun y start count)).length = (count + 1) / 2 := by
    unfold traceRun
    rw [inPairs_map_range, List.length_map, List.length_range]
  unfold traceParts
  dsimp only
  rw [hlength]
  unfold traceRun
  rw [inPairs_map_range, mapIdx_map_range]
  refine List.map_congr_left fun k _ => ?_
  unfold tracePart
  dsimp only
  rw [bytesBE_two, List.flatMap_cons, hentry]
  split
  · rw [List.flatMap_singleton, hentry]
    simp only [List.append_assoc]
  · rw [List.flatMap_nil]
    simp only [List.append_assoc]

theorem traceRead_arg (start count : Byte) (s : State) :
    traceReadOwner [start, count] s =
      if 31 < start.toNat ∨ count.toNat < 1 ∨ 8 < count.toNat then refuse s .arg
      else { state := s, status := .ok, results := traceParts s.sync start.toNat count.toNat } := by
  have hstart : arg [start, count] 0 1 = start.toNat := natBE_one start
  have hcount : arg [start, count] 1 1 = count.toNat := natBE_one count
  unfold traceReadOwner
  rw [hstart, hcount]

/-- Settles O38. -/
theorem traceReadAnswersInParts : Obligations.TraceReadAnswersInParts := by
  intro s f rest start count ha hr
  refine ⟨fun hbad => ?_, fun hstart hlow hhigh => ?_⟩
  · refine congrArg Host.Outcome.next (execOp_eq ha hr rfl rfl ?_)
    rw [traceRead_arg, if_pos hbad]
    exact answersAs_refuse s .arg
  · have hranges : ¬ (31 < start.toNat ∨ count.toNat < 1 ∨ 8 < count.toNat) := by omega
    have hframes : ((List.range ((count.toNat + 1) / 2)).map fun k =>
        replyBytes s.nodeAddr (tagOf f) 0x13 0 (tracePart s.sync start.toNat count.toNat k)) ≠ [] := by
      have hsome : (count.toNat + 1) / 2 ≠ 0 := by omega
      simpa using hsome
    refine congrArg Host.Outcome.next ?_
    show takeRequest (.op .traceRead) (runOp .traceRead traceReadOwner) s = _
    rw [takeRequest_taken (nextRequest_of_takes hr.takes) (rowOf_of_request ha hr rfl), runOp_of_request ha hr rfl,
      traceRead_arg, if_neg hranges, answerRequest_frames hr rfl (.refl s), traceParts_eq, List.map_map]
    exact conclude_answeredWith hframes

end Sys2Proof.Requests
end

section
/-! PROOF. SYNC_CONFIG: the ranges of its settings, the TAIL check, the sync unit and the window it leaves, and the settling of
the obligation on it (R64, R65, R73, R76, R77, R96). -/

namespace Sys2Proof.Requests

open Sys2Proof.Machine Sys2Proof.Safety Sys2Proof.Claims Sys2Proof.Link Sys2Proof.Invariants

/-! ### The settings it carries (R64, R145) -/

theorem natBE_four (a b c d : Byte) : natBE [a, b, c, d] = word4 a b c d := by simp [natBE, word4]

theorem flagOf_eq (n : Nat) : flagOf n = if 1 < n then none else some (decide (n = 1)) := by
  rcases n with _ | _ | n
  · rfl
  · rfl
  · rw [if_pos (by omega)]; rfl

theorem lostPolicyOf_eq (n : Nat) :
    lostPolicyOf n = if 1 < n then none else some (if n = 0 then .continue else .close) := by
  rcases n with _ | _ | n
  · rfl
  · rfl
  · rw [if_pos (by omega)]; rfl

section Settings

variable (en m3 m2 m1 m0 w1 w0 l1 l0 miss hold lost : Byte)

/-- The ranges of R64 on what SYNC_CONFIG carries. -/
def SettingsCarried : Prop :=
  en.toNat ≤ 1 ∧ word4 m3 m2 m1 m0 ≤ 1999999 ∧ 1 ≤ word2 w1 w0 ∧ word2 w1 w0 ≤ 4095 ∧ 1 ≤ word2 l1 l0 ∧
    word2 l1 l0 ≤ 1023 ∧ 1 ≤ miss.toNat ∧ miss.toNat ≤ 15 ∧ 1 ≤ hold.toNat ∧ lost.toNat ≤ 1

/-- The settings that SYNC_CONFIG carries. -/
def settingsCarried : SyncSettings :=
  { enable := decide (en = 1), markOffset := word4 m3 m2 m1 m0, lockWindow := word2 w1 w0, slewLimit := word2 l1 l0,
    missLimit := miss.toNat, holdoverLimit := hold.toNat, lostPolicy := if lost = 0 then .continue else .close }

theorem syncArgs_cases :
    (SettingsCarried en m3 m2 m1 m0 w1 w0 l1 l0 miss hold lost →
      syncArgs [en, m3, m2, m1, m0, w1, w0, l1, l0, miss, hold, lost] =
        some (settingsCarried en m3 m2 m1 m0 w1 w0 l1 l0 miss hold lost)) ∧
    (¬ SettingsCarried en m3 m2 m1 m0 w1 w0 l1 l0 miss hold lost →
      syncArgs [en, m3, m2, m1, m0, w1, w0, l1, l0, miss, hold, lost] = none) := by
  have hen : arg [en, m3, m2, m1, m0, w1, w0, l1, l0, miss, hold, lost] 0 1 = en.toNat := natBE_one en
  have hmark : arg [en, m3, m2, m1, m0, w1, w0, l1, l0, miss, hold, lost] 1 4 = word4 m3 m2 m1 m0 :=
    natBE_four m3 m2 m1 m0
  have hwindow : arg [en, m3, m2, m1, m0, w1, w0, l1, l0, miss, hold, lost] 5 2 = word2 w1 w0 := natBE_two w1 w0
  have hslew : arg [en, m3, m2, m1, m0, w1, w0, l1, l0, miss, hold, lost] 7 2 = word2 l1 l0 := natBE_two l1 l0
  have hmiss : arg [en, m3, m2, m1, m0, w1, w0, l1, l0, miss, hold, lost] 9 1 = miss.toNat := natBE_one miss
  have hhold : arg [en, m3, m2, m1, m0, w1, w0, l1, l0, miss, hold, lost] 10 1 = hold.toNat := natBE_one hold
  have hlost : arg [en, m3, m2, m1, m0, w1, w0, l1, l0, miss, hold, lost] 11 1 = lost.toNat := natBE_one lost
  have hone : decide (en.toNat = 1) = decide (en = 1) := decide_eq_decide.2 (BitVec.toNat_inj (y := 1#8))
  have hzero : lost.toNat = 0 ↔ lost = 0 := BitVec.toNat_inj (y := 0#8)
  have hhigh : hold.toNat ≤ 255 := Nat.lt_succ_iff.1 hold.isLt
  unfold syncArgs
  rw [hen, hmark, hwindow, hslew, hmiss, hhold, hlost, flagOf_eq, lostPolicyOf_eq, hone]
  simp only [hzero]
  refine ⟨fun ⟨hflag, hm, hw, hw', hl, hl', hk, hk', hh, hpolicy⟩ => ?_, fun hbad => ?_⟩
  · rw [if_neg (Nat.not_lt.2 hflag), if_neg (Nat.not_lt.2 hpolicy)]
    exact if_pos ⟨hm, hw, hw', hl, hl', hk, hk', hh, hhigh⟩
  · by_cases hflag : 1 < en.toNat
    · rw [if_pos hflag]
    · by_cases hpolicy : 1 < lost.toNat
      · rw [if_neg hflag, if_pos hpolicy]
      · rw [if_neg hflag, if_neg hpolicy]
        refine if_neg fun ⟨hm, hw, hw', hl, hl', hk, hk', hh, _⟩ => hbad ?_
        exact ⟨Nat.not_lt.1 hflag, hm, hw, hw', hl, hl', hk, hk', hh, Nat.not_lt.1 hpolicy⟩

end Settings

/-! ### The TAIL check and the new state of the sync unit (R65, R76, R77) -/

/-- The first active slot that a shortest LOCKED cycle would cut (R76, check 3). -/
def cutSlot (n : SyncSettings) (s : State) : Option ActiveSlot :=
  s.plan.active.find? fun a =>
    decide (n.enable = true ∧ (s.plan.activeL : Int) - n.slewLimit < a.slot.openAt + a.slot.span)

theorem tailFault_eq (n : SyncSettings) (s : State) :
    tailFault s.plan n = (cutSlot n s).map fun a => a.slot.openAt := by
  unfold tailFault cutSlot
  cases n.enable with
  | false =>
    have hnone : (s.plan.active.find? fun a =>
        decide (false = true ∧ (s.plan.activeL : Int) - n.slewLimit < a.slot.openAt + a.slot.span)) = none :=
      List.find?_eq_none.2 fun a _ => by simp
    rw [hnone]
    rfl
  | true =>
    have hcut : (fun x : ActiveSlot => decide (s.plan.activeL < x.slot.openAt + x.slot.span + n.slewLimit)) =
        fun a => decide (true = true ∧ (s.plan.activeL : Int) - n.slewLimit < a.slot.openAt + a.slot.span) := by
      funext a
      refine decide_eq_decide.2 ⟨fun h => ⟨rfl, by omega⟩, fun ⟨_, h⟩ => by omega⟩
    rw [if_pos rfl, hcut]

theorem configuredMode_eq (s : State) (n : SyncSettings) :
    configuredMode s.sync.mode n.enable (adjustment s) n.slewLimit = configuredState s n := by
  unfold configuredMode configuredState
  cases n.enable with
  | false => rfl
  | true =>
    cases s.sync.mode with
    | locked =>
      show (if n.slewLimit < (adjustment s).natAbs then SyncMode.acquire else .locked) =
        if (adjustment s).natAbs ≤ n.slewLimit then .locked else .acquire
      by_cases h : (adjustment s).natAbs ≤ n.slewLimit
      · rw [if_pos h, if_neg (Nat.not_lt.2 h)]
      · rw [if_neg h, if_pos (Nat.not_le.1 h)]
    | _ => rfl

/-- A part in HOLDOVER stays there or goes to FREE (R77). -/
theorem configuredState_holdover {s : State} {n : SyncSettings} (h : s.sync.mode = .holdover) :
    configuredState s n ≠ .acquire := by
  unfold configuredState
  rw [h]
  split <;> nofun

theorem configuredSync_eq (s : State) (n : SyncSettings) :
    configuredSync s.sync n (adjustment s) = configured s n := by
  unfold configuredSync configured
  dsimp only
  rw [configuredMode_eq]
  by_cases hsame : configuredState s n = s.sync.mode
  · have hkept : ¬ (s.sync.mode = .locked ∧ configuredState s n = .acquire) := by
      rintro ⟨hl, ha⟩
      rw [hsame, hl] at ha
      cases ha
    rw [if_pos hsame, if_pos hsame, if_neg hkept]
  · have hiff : (configuredState s n = .acquire ∧ s.sync.mode ≠ .free) ↔
        (s.sync.mode = .locked ∧ configuredState s n = .acquire) := by
      refine ⟨fun ⟨ha, hfree⟩ => ⟨?_, ha⟩, fun ⟨hl, ha⟩ => ⟨ha, by simp [hl]⟩⟩
      cases hm : s.sync.mode with
      | locked => rfl
      | free => exact absurd hm hfree
      | acquire => exact absurd (ha.trans hm.symm) hsame
      | holdover => exact absurd ha (configuredState_holdover hm)
    rw [if_neg hsame, if_neg hsame]
    by_cases hlost : s.sync.mode = .locked ∧ configuredState s n = .acquire
    · rw [if_pos (hiff.2 hlost), if_pos hlost]
      rfl
    · rw [if_neg (mt hiff.1 hlost), if_neg hlost]
      rfl

/-! ### The window ended as the gate shuts (R96) -/

theorem modify_eq_spentAt (pos : Nat) (l : List ActiveSlot) :
    (l.modify pos fun a => { a with spent := true }) = spentAt pos l := by
  unfold spentAt
  refine List.ext_getElem? fun k => ?_
  rw [List.getElem?_modify, List.getElem?_mapIdx]
  by_cases hk : pos = k
  · simp [hk]
  · simp [hk, Ne.symm hk]

theorem endWindow_eq_windowEnded (s : State) : endWindow s = windowEnded s := by
  unfold endWindow windowEnded spendSlot
  cases s.engine.window with
  | none => rfl
  | some w =>
    dsimp only
    rw [← modify_eq_spentAt]
    cases w.once <;> rfl

/-! ### The whole effect (R76, R77) -/

/-- The state that settings in range and the checks passed lead to. -/
def reconfigured (n : SyncSettings) (s : State) : State :=
  gateEnds s (reportSync s.sync.mode { s with sync := configured s n })

theorem reconfigured_eq (n : SyncSettings) (s : State) :
    reconfigured n s =
      (let c : State := { s with sync := configured s n }
       let u := if c.sync.mode = s.sync.mode then c else report (.syncState s.sync.mode c.sync.mode) c
       if gateOpen s = true ∧ gateOpen c = false then windowEnded u else u) := by
  have hgate : gateOpen (reportSync s.sync.mode { s with sync := configured s n }) =
      gateOpen { s with sync := configured s n } := by rw [reportSync_eq]; rfl
  unfold reconfigured gateEnds
  rw [hgate, endWindow_eq_windowEnded]
  dsimp only
  cases gateOpen s <;> cases gateOpen { s with sync := configured s n } <;> rfl

theorem placing_reconfigured (n : SyncSettings) (s : State) : Placing s (reconfigured n s) := by
  unfold reconfigured
  rw [gateEnds_eq, reportSync_eq]
  exact ⟨rfl, rfl, rfl, rfl⟩

theorem endWindow_takeHead (s : State) : endWindow (takeHead s) = takeHead (endWindow s) := by
  rw [endWindow_eq_windowEnded, endWindow_eq_windowEnded]
  unfold windowEnded
  show (match s.engine.window with | some w => _ | none => _) = _
  cases s.engine.window <;> rfl

theorem reconfigured_takeHead (n : SyncSettings) (s : State) :
    reconfigured n (takeHead s) = takeHead (reconfigured n s) := by
  have hreport : reportSync s.sync.mode (takeHead { s with sync := configured s n }) =
      takeHead (reportSync s.sync.mode { s with sync := configured s n }) := by
    unfold reportSync
    show (if (configured s n).mode = s.sync.mode then _ else _) = takeHead (if (configured s n).mode = _ then _ else _)
    split
    · rfl
    · exact (report_comm (f := takeHead) _ (fun _ => rfl) rfl rfl).symm
  have hgates : ∀ u : State, gateEnds (takeHead s) (takeHead u) = takeHead (gateEnds s u) := by
    intro u
    unfold gateEnds
    show (if gateOpen s && !gateOpen u then _ else _) = _
    split
    · exact endWindow_takeHead u
    · rfl
  show gateEnds (takeHead s) (reportSync s.sync.mode (takeHead { s with sync := configured s n })) = _
  rw [hreport, hgates]
  rfl

/-- What a request answers in one frame, with the state its verdict leaves. -/
structure AnswersWith (s : State) (a : Answer) (v : Verdict) : Prop where
  status : a.status.code = v.status
  results : a.results = [v.result]
  state : a.state = takeHead v.state
  placing : Placing s v.state

/-- SYNC_CONFIG's answer to settings in range is the verdict's. -/
theorem syncConfig_answers {a : List Byte} {n : SyncSettings} (hn : syncArgs a = some n) (s : State) :
    AnswersWith s (syncConfigOwner a (takeHead s)) (syncConfigVerdict n s) := by
  have hpending : (takeHead s).plan.mode.switching = pendingSwitch s.plan := (pendingSwitch_eq s.plan).symm
  have htail : tailFault (takeHead s).plan n = (cutSlot n s).map fun a => a.slot.openAt := tailFault_eq n (takeHead s)
  have hdone : accept (gateEnds (takeHead s) (reportSync (takeHead s).sync.mode { takeHead s with
      sync := configuredSync (takeHead s).sync n (adjustment (takeHead s)) })) [] =
      accept (takeHead (reconfigured n s)) [] := by
    rw [configuredSync_eq, ← reconfigured_takeHead]
    rfl
  unfold syncConfigOwner
  rw [hn]
  dsimp only
  rw [hpending, htail, hdone]
  show AnswersWith s _ (if pendingSwitch s.plan then refused 1 s else
    match cutSlot n s with
    | some a => _
    | none => _)
  cases pendingSwitch s.plan with
  | true => exact ⟨rfl, rfl, rfl, .refl s⟩
  | false =>
    cases cutSlot n s with
    | some x =>
      refine ⟨rfl, ?_, rfl, .refl s⟩
      show [Reason.tail.code :: bytesBE 4 x.slot.openAt] = [3 :: be4 x.slot.openAt]
      rw [bytesBE_four]
      rfl
    | none =>
      have hstate := reconfigured_eq n s
      have hplacing := placing_reconfigured n s
      rw [hstate] at hplacing
      exact ⟨rfl, rfl, congrArg takeHead hstate, hplacing⟩

/-- A request that the unit takes is answered as its verdict says, and the arbiters follow (R32, R100, R129). -/
theorem execOp_conclude {s : State} {f : FrameBytes} {rest : List FrameBytes} {op : Byte} {args : List Byte} {o : Op}
    {owner : List Byte → State → Answer} {v : Verdict} (ha : Addressed s f) (hr : Request s f rest op args)
    (hop : Op.ofByte op = some o) (hlen : o.len = args.length + 1)
    (h : AnswersWith s (owner args (takeHead s)) v) :
    execOp o owner s = conclude s (answered s f rest op v) := by
  obtain ⟨hstatus, hresults, hstate, hplacing⟩ := h
  unfold execOp
  rw [takeRequest_taken (nextRequest_of_takes hr.takes) (rowOf_of_request ha hr hop), runOp_of_request ha hr hlen,
    answerRequest_frames hr hstate hplacing, hresults, hstatus, List.map_singleton, answeredWith_single hr hplacing]

/-- Settles O46. -/
theorem syncConfigReplaces : Obligations.SyncConfigReplaces := by
  intro s f rest en m3 m2 m1 m0 w1 w0 l1 l0 miss hold lost ha hr
  obtain ⟨hin, hout⟩ := syncArgs_cases en m3 m2 m1 m0 w1 w0 l1 l0 miss hold lost
  refine ⟨fun hbad => ?_, fun hgood => ?_⟩
  · refine congrArg Host.Outcome.next (execOp_eq ha hr rfl rfl ?_)
    unfold syncConfigOwner
    rw [hout hbad]
    exact answersAs_refuse s .arg
  · exact congrArg Host.Outcome.next (execOp_conclude ha hr rfl rfl (syncConfig_answers (hin hgood) s))

end Sys2Proof.Requests
end

section
/-! PROOF. The beginning of a cycle: what no block changes at a wrap, the end of the old window, the resume offset, and the slot
at OPEN 0 (R14, R55, R56, R58, R84 to R87, R94, R97, R98). -/

namespace Sys2Proof.Cycles

open Sys2Proof.Machine Sys2Proof.Safety Sys2Proof.Claims Sys2Proof.Link Sys2Proof.Invariants Sys2Proof.Wraps

/-! ### What the ageing of an entry changes (R44, R156) -/

/-- What reports, the note unit and port U's arbiter change at most. -/
def OnlyNotesAndUplink (s t : State) : Prop :=
  t = { s with txU := t.txU, pool := t.pool, stores := t.stores, notes := t.notes }

theorem onlyNotesAndUplink_reportTimes (n : Nat) (o : Occurrence) (s : State) :
    OnlyNotesAndUplink s (reportTimes n o s) := by
  rw [reportTimes_eq]; rfl

theorem onlyNotesAndUplink_reportAmid (i : StreamId) (k : Nat) (before : State) (acts grants : Bool) (n : Nat)
    (s : State) : OnlyNotesAndUplink s (reportAmid i k (amidAgeing before acts grants) n s) := by
  refine reportAmid_keeps (I := OnlyNotesAndUplink s) (fun o h => ?_) (fun h => ?_) (fun h => ?_) i k before acts grants
    n rfl
  · rw [report_eq, h]; rfl
  · rw [h]; rfl
  · rw [arbiterU_eq, h]; rfl

/-- The ageing of an entry leaves the release engine's window, its next slot and the resume offset. -/
theorem ageStream_frame (i : StreamId) {reports : Nat → State → State} (h : ∀ n t, OnlyNotesAndUplink t (reports n t))
    (s : State) :
    ageStream i reports s =
      { s with
        txU := (ageStream i reports s).txU
        pool := (ageStream i reports s).pool
        stores := (ageStream i reports s).stores
        streams := (ageStream i reports s).streams
        notes := (ageStream i reports s).notes
        engine := { s.engine with request := (ageStream i reports s).engine.request } } := by
  rcases ageStream_cases i reports s with he | ⟨-, n, c, he⟩ <;> rw [he]
  · rw [h 0 s]
  · rw [withdrawIfEmpty_eq, h n, freeBufs_eq]
    rfl

theorem request_ageStream_of_no_window (i : StreamId) {reports : Nat → State → State}
    (h : ∀ n t, OnlyNotesAndUplink t (reports n t)) {s : State} (hw : s.engine.window = none) :
    (ageStream i reports s).engine.request = s.engine.request := by
  have hidle : ∀ t : State, t.engine.window = none → withdrawIfEmpty i t = t := fun t ht => by
    unfold withdrawIfEmpty; rw [ht]
  rcases ageStream_cases i reports s with he | ⟨-, n, c, he⟩ <;> rw [he]
  · rw [h 0 s]
  · have hengine : ∀ t : State, (reports n t).engine = t.engine := fun t => by rw [h n t]
    have hfreed : ∀ bs (t : State), (freeBufs bs t).engine = t.engine := fun bs t => by rw [freeBufs_eq]
    have hbefore : ∀ bs q, (reports n (countStream i c (freeBufs bs (setQueue i q s)))).engine = s.engine := fun bs q =>
      (hengine _).trans (hfreed bs (setQueue i q s))
    rw [hidle _ (by rw [hbefore]; exact hw), hbefore]

/-! ### What a wrap leaves alone -/

/-- CYC, the ports, the management unit, the receive areas, the node address, power and the command queue. -/
def stillView (s : State) :=
  (s.cyc, s.portU, s.portD, s.mgmt, s.markArea, s.mgmtArea, s.nodeAddr, s.power, s.conditions, s.pending)

theorem stillView_wrapAct (before : State) (k : WrapPlan) (a : WrapAct) (s : State) :
    stillView (wrapAct before k a s) = stillView s := by
  cases a with
  | sync =>
    show stillView (syncAct k s) = _
    unfold syncAct
    dsimp only
    rw [gateEnds_eq, reportSync_eq]
    rfl
  | plan => show stillView (planAct k s) = _; rw [planAct_eq]; rfl
  | close => show stillView (closeWindow s) = _; rw [closeWindow_eq]; rfl
  | age i =>
    show stillView (ageStream i _ s) = _
    rw [ageStream_frame i fun n t => onlyNotesAndUplink_reportTimes n _ t]
    rfl
  | notes => rfl
  | grantU =>
    show stillView (decideU before s) = _
    rcases decideU_cases before s with ⟨-, he⟩ | ⟨-, he⟩ <;> rw [he]
    rw [arbiterU_eq]
    rfl
  | ageAmid i k acts grants =>
    show stillView (ageStream i _ s) = _
    rw [ageStream_frame i (onlyNotesAndUplink_reportAmid i k before acts grants)]
    rfl
  | unit => rfl

theorem stillView_newCycle (order : List WrapAct) (s : State) :
    stillView (newCycle order s) = stillView { s with cyc := true } := by
  have hacted : stillView (acted s (wrapPlan s) (fullOrder order defaultOrder) (beginCycle (wrapPlan s) s)) =
      stillView (beginCycle (wrapPlan s) s) :=
    acted_keeps (I := fun t => stillView t = stillView (beginCycle (wrapPlan s) s))
      (fun a _ _ ht => (stillView_wrapAct s _ a _).trans ht) rfl
  have hnew : stillView (newCycle order s) =
      stillView (acted s (wrapPlan s) (fullOrder order defaultOrder) (beginCycle (wrapPlan s) s)) := by
    rw [newCycle_eq, wrapBlocks_eq]; rfl
  exact hnew.trans hacted

theorem stillView_wrapEvent (order : List WrapAct) (s : State) :
    stillView (wrapEvent order s) = stillView { s with cyc := true } := by
  rcases wrapEvent_cases order s with he | ⟨-, he⟩ <;> rw [he, ← stillView_newCycle order s]
  rw [conclude_eq, takeSlot_eq]
  rfl

/-! ### The old window (R94, R96) -/

/-- Where no window stands, WIN is low and no request stands. -/
def WindowGone (s : State) : Prop := s.engine.window = none → s.win = false ∧ s.engine.request = false

theorem windowGone_of_eq {s t : State} (h : WindowGone s) (hwindow : t.engine.window = s.engine.window)
    (hwin : t.win = s.win) (hrequest : s.engine.window = none → t.engine.request = s.engine.request) :
    WindowGone t := by
  intro hn
  rw [hwindow] at hn
  rw [hwin, hrequest hn]
  exact h hn

theorem windowGone_endWindow {s : State} (h : WindowGone s) : WindowGone (endWindow s) := by
  rcases endWindow_eq s with ⟨-, he⟩ | ⟨w, -, he⟩ <;> rw [he]
  · exact h
  · exact fun _ => ⟨rfl, rfl⟩

theorem windowGone_ageStream {s : State} (h : WindowGone s) (i : StreamId) {reports : Nat → State → State}
    (hr : ∀ n t, OnlyNotesAndUplink t (reports n t)) : WindowGone (ageStream i reports s) :=
  windowGone_of_eq h (by rw [ageStream_frame i hr]) (by rw [ageStream_frame i hr])
    (request_ageStream_of_no_window i hr)

theorem windowGone_wrapAct {s : State} (h : WindowGone s) (before : State) (k : WrapPlan) (a : WrapAct) :
    WindowGone (wrapAct before k a s) := by
  cases a with
  | sync =>
    have hsync : WindowGone
        (reportSync s.sync.mode { s with sync := syncAfterWrap s.sync k.ending k.evaluation k.length }) := by
      rw [reportSync_eq]; exact h
    show WindowGone (gateEnds s _)
    rcases gateEnds_cases s (reportSync s.sync.mode { s with sync := syncAfterWrap s.sync k.ending k.evaluation k.length })
      with ⟨-, -, he⟩ | ⟨-, he⟩ <;> rw [he]
    · exact windowGone_endWindow hsync
    · exact hsync
  | plan => show WindowGone (planAct k s); rw [planAct_eq]; exact h
  | close =>
    refine windowGone_endWindow (s := missedCheck s) ?_
    rw [missedCheck_eq]
    exact h
  | age i => exact windowGone_ageStream h i fun n t => onlyNotesAndUplink_reportTimes n _ t
  | notes => exact h
  | grantU =>
    show WindowGone (decideU before s)
    rcases decideU_cases before s with ⟨-, he⟩ | ⟨-, he⟩ <;> rw [he]
    · rw [arbiterU_eq]; exact h
    · exact h
  | ageAmid i n acts grants => exact windowGone_ageStream h i (onlyNotesAndUplink_reportAmid i n before acts grants)
  | unit => exact h

/-- A window that stood at the wrap is gone in the new cycle, with WIN low and its request withdrawn. -/
theorem windowGone_newCycle {s : State} (h : s.engine.window ≠ none) (order : List WrapAct) :
    WindowGone (newCycle order s) := by
  have hacted : WindowGone (acted s (wrapPlan s) (fullOrder order defaultOrder) (beginCycle (wrapPlan s) s)) :=
    acted_keeps (I := WindowGone) (fun a _ _ ht => windowGone_wrapAct ht s _ a) fun hn => absurd hn h
  rw [newCycle_eq, wrapBlocks_eq]
  exact hacted

theorem window_newCycle (order : List WrapAct) (s : State) : (newCycle order s).engine.window = none := by
  rw [newCycle_eq]
  exact window_wrapBlocks order s

/-! ### The window counts and the resume offset (R97, R124) -/

/-- The counts of windows opened and skipped. -/
def slotCounts (s : State) := (s.plan.counters.windowsOpened, s.plan.counters.windowsSkipped)

/-- The hold of the plan, and the resume offset. -/
def holdView (s : State) := (s.plan.mode, s.plan.holdLimit, s.plan.holdCount, s.engine.resumeOffset)

theorem holdView_endWindow (s : State) :
    slotCounts (endWindow s) = slotCounts s ∧ holdView (endWindow s) = holdView s := by
  rcases endWindow_eq s with ⟨-, he⟩ | ⟨w, -, he⟩ <;> rw [he]
  · exact ⟨rfl, rfl⟩
  · unfold slotCounts holdView
    cases w.once <;> exact ⟨rfl, rfl⟩

/-- Only plan control's own action changes the hold or the resume offset, and none changes the window counts. -/
theorem holdView_wrapAct (before : State) (k : WrapPlan) (a : WrapAct) (s : State) :
    slotCounts (wrapAct before k a s) = slotCounts s ∧
      (.plan ∉ a.blocks → holdView (wrapAct before k a s) = holdView s) := by
  have hboth : ∀ {t : State}, slotCounts t = slotCounts s ∧ holdView t = holdView s →
      slotCounts t = slotCounts s ∧ (.plan ∉ a.blocks → holdView t = holdView s) := fun h => ⟨h.1, fun _ => h.2⟩
  cases a with
  | sync =>
    refine hboth ?_
    show slotCounts (gateEnds s _) = _ ∧ holdView (gateEnds s _) = _
    rcases gateEnds_cases s (reportSync s.sync.mode { s with sync := syncAfterWrap s.sync k.ending k.evaluation k.length })
      with ⟨-, -, he⟩ | ⟨-, he⟩ <;> rw [he]
    · rw [(holdView_endWindow _).1, (holdView_endWindow _).2, reportSync_eq]
      exact ⟨rfl, rfl⟩
    · rw [reportSync_eq]
      exact ⟨rfl, rfl⟩
  | plan =>
    refine ⟨?_, fun hn => absurd List.mem_cons_self hn⟩
    show slotCounts (planAct k s) = _
    have hcounted : slotCounts { s with plan := countGuard (countHold s.plan) } = slotCounts s := by
      show ((countHold s.plan).counters.windowsOpened, (countHold s.plan).counters.windowsSkipped) = _
      unfold countHold
      split <;> rfl
    unfold planAct
    split
    · unfold expireHold
      rw [report_eq]
      rfl
    · dsimp only
      split
      · unfold takeSwitch
        rw [report_eq]
        exact hcounted
      · exact hcounted
  | close =>
    refine hboth ?_
    show slotCounts (endWindow (missedCheck s)) = _ ∧ holdView (endWindow (missedCheck s)) = _
    rw [(holdView_endWindow _).1, (holdView_endWindow _).2, missedCheck_eq]
    exact ⟨rfl, rfl⟩
  | age i =>
    refine hboth ?_
    show slotCounts (ageStream i _ s) = _ ∧ holdView (ageStream i _ s) = _
    rw [ageStream_frame i fun n t => onlyNotesAndUplink_reportTimes n _ t]
    exact ⟨rfl, rfl⟩
  | notes => exact hboth ⟨rfl, rfl⟩
  | grantU =>
    refine hboth ?_
    show slotCounts (decideU before s) = _ ∧ holdView (decideU before s) = _
    rcases decideU_cases before s with ⟨-, he⟩ | ⟨-, he⟩ <;> rw [he]
    · rw [arbiterU_eq]; exact ⟨rfl, rfl⟩
    · exact ⟨rfl, rfl⟩
  | ageAmid i n acts grants =>
    refine hboth ?_
    show slotCounts (ageStream i _ s) = _ ∧ holdView (ageStream i _ s) = _
    rw [ageStream_frame i (onlyNotesAndUplink_reportAmid i n before acts grants)]
    exact ⟨rfl, rfl⟩
  | unit => exact hboth ⟨rfl, rfl⟩

theorem slotCounts_newCycle (order : List WrapAct) (s : State) : slotCounts (newCycle order s) = slotCounts s := by
  have hacted : slotCounts (acted s (wrapPlan s) (fullOrder order defaultOrder) (beginCycle (wrapPlan s) s)) =
      slotCounts s :=
    acted_keeps (I := fun t => slotCounts t = slotCounts s)
      (fun a _ _ ht => (holdView_wrapAct s _ a _).1.trans ht) rfl
  have hcopy : ∀ (k : WrapPlan) (t : State), slotCounts (copyPlan k t) = slotCounts t := fun k t => by
    unfold copyPlan; split <;> rfl
  have hplan : (newCycle order s).plan = (wrapBlocks order s).plan := by rw [newCycle_eq]
  have hnew : slotCounts (newCycle order s) = slotCounts (wrapBlocks order s) := by unfold slotCounts; rw [hplan]
  exact hnew.trans ((hcopy _ _).trans hacted)

theorem mem_blocks_plan {a : WrapAct} (h : .plan ∈ a.blocks) : a = .plan := by
  cases a with
  | plan => rfl
  | ageAmid i n acts grants => cases acts <;> simp [WrapAct.blocks] at h
  | _ => simp [WrapAct.blocks] at h

/-- Plan control's action sets the resume offset exactly where the hold expires (R97, R124). -/
theorem resumeOffset_planAct (k : WrapPlan) (s : State) :
    (planAct k s).engine.resumeOffset = if holdExpires s.plan then some 0 else s.engine.resumeOffset := by
  unfold planAct
  split
  · unfold expireHold
    rw [report_eq]
    rfl
  · dsimp only
    split
    · unfold takeSwitch
      rw [report_eq]
      rfl
    · rfl

theorem holdExpires_congr {s t : State} (h : holdView t = holdView s) : holdExpires t.plan = holdExpires s.plan := by
  simp only [holdView, Prod.mk.injEq] at h
  obtain ⟨hmode, hlimit, hcount, -⟩ := h
  unfold holdExpires
  rw [hmode, hlimit, hcount]

theorem resumeOffset_newCycle (order : List WrapAct) (s : State) :
    (newCycle order s).engine.resumeOffset = if holdExpires s.plan then some 0 else none := by
  obtain ⟨pre, a, post, hsplit, ha, hpre, hpost⟩ := fullOrder_split order (b := .plan) (by decide)
  obtain rfl := mem_blocks_plan ha
  have hkeeps : ∀ {acts : List WrapAct}, (∀ x ∈ acts, .plan ∉ x.blocks) → ∀ t : State,
      holdView (acted s (wrapPlan s) acts t) = holdView t := fun h t =>
    acted_keeps (I := fun u => holdView u = holdView t)
      (fun x hx _ hu => ((holdView_wrapAct s _ x _).2 (h x hx)).trans hu) rfl
  have hbefore := hkeeps hpre (beginCycle (wrapPlan s) s)
  have hafter := hkeeps hpost (planAct (wrapPlan s) (acted s (wrapPlan s) pre (beginCycle (wrapPlan s) s)))
  have hresume := congrArg (fun v => v.2.2.2) hbefore
  have hacted : (newCycle order s).engine.resumeOffset =
      (planAct (wrapPlan s) (acted s (wrapPlan s) pre (beginCycle (wrapPlan s) s))).engine.resumeOffset := by
    rw [newCycle_eq, wrapBlocks_eq, hsplit, acted_append]
    exact congrArg (fun v => v.2.2.2) hafter
  rw [hacted, resumeOffset_planAct, holdExpires_congr hbefore]
  show (if holdExpires s.plan then some 0 else _) = _
  rw [show (acted s (wrapPlan s) pre (beginCycle (wrapPlan s) s)).engine.resumeOffset = none from hresume]

end Sys2Proof.Cycles
end

section
/-! PROOF. The slot at OPEN 0 of a new cycle: passed over, opened or skipped at once (R84 to R87, R97). -/

namespace Sys2Proof.Cycles

open Sys2Proof.Machine Sys2Proof.Safety Sys2Proof.Claims Sys2Proof.Link Sys2Proof.Invariants Sys2Proof.Wraps

/-! ### What the arbiters leave of the release engine (R89, R99) -/

/-- The arbiters leave the release engine as it is, but for a release granted to a window that stands. -/
theorem engine_conclude (before s : State) :
    (conclude before s).engine = s.engine ∨
    ∃ w, s.engine.window = some w ∧
      (conclude before s).engine = { s.engine with request := false, window := some (windowGranted w) } := by
  have huplink : ∀ t : State, (if invokesU before s then arbiterU t else t).engine = t.engine := fun t => by
    split
    · rw [arbiterU_eq]
    · rfl
  have hkept : (conclude before s).engine = (if invokesD before s then arbiterD s else s).engine := huplink _
  rw [hkept]
  split
  · rcases arbiterD_cases s with he | ⟨-, ⟨m, he⟩ | ⟨w, x, q, -, hw, -, he⟩ | ⟨b, q, -, he⟩⟩
    · exact .inl (congrArg State.engine he)
    · exact .inl (by rw [he]; rfl)
    · exact .inr ⟨w, hw, by rw [he, grantRelease_eq]⟩
    · exact .inl (by rw [he]; rfl)
  · exact .inl rfl

theorem engine_conclude_of_no_window {s : State} (h : s.engine.window = none) (before : State) :
    (conclude before s).engine = s.engine := by
  rcases engine_conclude before s with he | ⟨w, hw, -⟩
  · exact he
  · rw [h] at hw; cases hw

/-! ### The take (R84 to R86, R97) -/

theorem eligible_iff (c : Cycle) (a : ActiveSlot) : eligible c a = true ↔ eligibleIn c a := by
  simp [eligible, eligibleIn]

theorem takeSlot_passedOver {s : State} {a : ActiveSlot} (ha : nextSlot? s = some a)
    (he : ¬ eligibleIn s.timer.cycle a) :
    takeSlot s = { s with engine := { s.engine with nextSlot := s.engine.nextSlot + 1 } } := by
  unfold takeSlot
  rw [ha]
  exact if_neg fun h => he ((eligible_iff _ _).1 h)

theorem takeSlot_skipped {s : State} {a : ActiveSlot} (ha : nextSlot? s = some a) (he : eligibleIn s.timer.cycle a)
    (h : gateOpen s = false ∨ barredByResume s a = true) :
    takeSlot s =
      { s with
        engine := { s.engine with nextSlot := s.engine.nextSlot + 1 }
        plan := { s.plan with
          counters := { s.plan.counters with windowsSkipped := s.plan.counters.windowsSkipped + 1 } } } := by
  have hshut : ¬ (gateOpen s && !barredByResume s a) = true := by rcases h with h | h <;> simp [h]
  unfold takeSlot
  rw [ha]
  exact (if_pos ((eligible_iff _ _).2 he)).trans (if_neg hshut)

/-- The window record of a slot at the moment it opens (R85). -/
def openedWindow (position : Nat) (x : Slot) : Window :=
  { position := position, openAt := x.openAt, closeAt := x.openAt + x.span, stream := x.stream, quota := x.quota,
    once := x.once, released := 0, phase := .opened, onLine := false }

theorem takeSlot_opened {s : State} {a : ActiveSlot} (ha : nextSlot? s = some a) (he : eligibleIn s.timer.cycle a)
    (hgate : gateOpen s = true) (hbarred : barredByResume s a = false) :
    ∃ request, takeSlot s =
      { s with
        win := true
        engine := { s.engine with
          nextSlot := s.engine.nextSlot + 1
          window := some (openedWindow s.engine.nextSlot a.slot)
          request := request }
        plan := { s.plan with
          counters := { s.plan.counters with windowsOpened := s.plan.counters.windowsOpened + 1 } } } := by
  have hopen : (gateOpen s && !barredByResume s a) = true := by simp [hgate, hbarred]
  have htake : takeSlot s = openWindow s.engine.nextSlot a.slot
      { s with engine := { s.engine with nextSlot := s.engine.nextSlot + 1 } } := by
    unfold takeSlot
    rw [ha]
    exact (if_pos ((eligible_iff _ _).2 he)).trans (if_pos hopen)
  rw [htake]
  unfold openWindow
  dsimp only
  rw [raiseRequest_eq]
  exact ⟨_, rfl⟩

/-- A slot is eligible or not, and an eligible one opens or is skipped by the gate and the resume offset. -/
theorem slotTaking_cases (s : State) (a : ActiveSlot) :
    (¬ eligibleIn s.timer.cycle a) ∨
    eligibleIn s.timer.cycle a ∧ (gateOpen s = false ∨ barredByResume s a = true) ∨
    eligibleIn s.timer.cycle a ∧ gateOpen s = true ∧ barredByResume s a = false := by
  by_cases he : eligibleIn s.timer.cycle a
  · cases gateOpen s <;> cases barredByResume s a <;> simp [he]
  · exact .inl he

theorem win_conclude (before s : State) : (conclude before s).win = s.win ∧ (conclude before s).plan = s.plan := by
  rw [conclude_eq]
  exact ⟨rfl, rfl⟩

/-! ### What the take leaves of the rules that decide it -/

/-- What decides how a slot is taken: the active plan, the gate, the resume offset and the timer. -/
def takeView (s : State) := (s.plan.active, gateOpen s, s.engine.resumeOffset, s.timer)

theorem takeView_takeSlot (s : State) : takeView (takeSlot s) = takeView s := by
  cases ha : nextSlot? s with
  | none => unfold takeSlot; rw [ha]
  | some a =>
    rcases slotTaking_cases s a with he | ⟨he, hshut⟩ | ⟨he, hgate, hbarred⟩
    · rw [takeSlot_passedOver ha he]; rfl
    · rw [takeSlot_skipped ha he hshut]; rfl
    · obtain ⟨r, htake⟩ := takeSlot_opened ha he hgate hbarred
      rw [htake]
      rfl

theorem takeView_conclude (before s : State) : takeView (conclude before s) = takeView s := by
  have hresume : (conclude before s).engine.resumeOffset = s.engine.resumeOffset := by
    rcases engine_conclude before s with he | ⟨w, -, he⟩ <;> rw [he]
  unfold takeView gateOpen
  rw [hresume, conclude_eq]

theorem takeView_wrapEvent (order : List WrapAct) (s : State) :
    takeView (wrapEvent order s) = takeView (newCycle order s) := by
  rcases wrapEvent_cases order s with he | ⟨-, he⟩ <;> rw [he]
  exact (takeView_conclude _ _).trans (takeView_takeSlot _)

/-! ### The first event of the new cycle (R87) -/

theorem nextSlot_newCycle (order : List WrapAct) (s : State) :
    nextSlot? (newCycle order s) = (newCycle order s).plan.active.head? := by
  unfold nextSlot?
  rw [newCycle_nextSlot, List.head?_eq_getElem?]

theorem wrapEvent_of_noneAtZero {order : List WrapAct} {s : State} (h : NoneAtZero (newCycle order s)) :
    wrapEvent order s = newCycle order s := by
  rcases wrapEvent_cases order s with he | ⟨hn, -⟩
  · exact he
  · exact absurd h hn

theorem wrapEvent_of_slotAtZero {order : List WrapAct} {s : State} {a : ActiveSlot}
    (ha : (newCycle order s).plan.active.head? = some a) (h0 : a.slot.openAt = 0) :
    wrapEvent order s = conclude (newCycle order s) (takeSlot (newCycle order s)) := by
  have hclose : closeDue (newCycle order s) = false := by unfold closeDue; rw [window_newCycle]
  have htake : takeDue (newCycle order s) = true := by
    unfold takeDue
    rw [nextSlot_newCycle, ha, newCycle_offset]
    simpa using h0
  have hengine : engineEvent (newCycle order s) = takeSlot (newCycle order s) := by
    unfold engineEvent
    rw [hclose]
    exact if_pos htake
  have hdue : (closeDue (newCycle order s) || takeDue (newCycle order s)) = true := by rw [htake, Bool.or_true]
  rw [wrapEvent_eq]
  exact (if_pos hdue).trans (congrArg _ hengine)

/-- A slot with OPEN 0 is barred by the resume offset 0 alone: no other stands as the cycle begins (R97). -/
theorem barredByResume_zero {s : State} {a : ActiveSlot} (h0 : a.slot.openAt = 0)
    (hr : s.engine.resumeOffset = some 0 ∨ s.engine.resumeOffset = none) :
    barredByResume s a = true ↔ s.engine.resumeOffset = some 0 ∧ 0 < a.slot.span := by
  unfold barredByResume
  rcases hr with hr | hr <;> rw [hr]
  · simp [h0]
  · simp

section AtZero

variable {order : List WrapAct} {s : State} {a : ActiveSlot} (ha : (newCycle order s).plan.active.head? = some a)
  (h0 : a.slot.openAt = 0)
include ha h0

theorem wrapEvent_passedOver (he : ¬ eligibleIn (newCycle order s).timer.cycle a) :
    (wrapEvent order s).engine = { (newCycle order s).engine with nextSlot := 1 } ∧
    (wrapEvent order s).win = (newCycle order s).win ∧ (wrapEvent order s).plan = (newCycle order s).plan := by
  have hnext : nextSlot? (newCycle order s) = some a := (nextSlot_newCycle order s).trans ha
  have htake := takeSlot_passedOver hnext he
  have hnone : (takeSlot (newCycle order s)).engine.window = none := by rw [htake]; exact window_newCycle order s
  rw [wrapEvent_of_slotAtZero ha h0, (win_conclude _ _).1, (win_conclude _ _).2, engine_conclude_of_no_window hnone, htake]
  exact ⟨congrArg (fun n => { (newCycle order s).engine with nextSlot := n + 1 }) (newCycle_nextSlot order s), rfl, rfl⟩

theorem wrapEvent_skipped (he : eligibleIn (newCycle order s).timer.cycle a)
    (hshut : gateOpen (newCycle order s) = false ∨ barredByResume (newCycle order s) a = true) :
    (wrapEvent order s).engine = { (newCycle order s).engine with nextSlot := 1 } ∧
    (wrapEvent order s).win = (newCycle order s).win ∧
    slotCounts (wrapEvent order s) =
      ((newCycle order s).plan.counters.windowsOpened, (newCycle order s).plan.counters.windowsSkipped + 1) := by
  have hnext : nextSlot? (newCycle order s) = some a := (nextSlot_newCycle order s).trans ha
  have htake := takeSlot_skipped hnext he hshut
  have hnone : (takeSlot (newCycle order s)).engine.window = none := by rw [htake]; exact window_newCycle order s
  unfold slotCounts
  rw [wrapEvent_of_slotAtZero ha h0, (win_conclude _ _).1, (win_conclude _ _).2, engine_conclude_of_no_window hnone, htake]
  exact ⟨congrArg (fun n => { (newCycle order s).engine with nextSlot := n + 1 }) (newCycle_nextSlot order s), rfl, rfl⟩

theorem wrapEvent_opened (he : eligibleIn (newCycle order s).timer.cycle a)
    (hgate : gateOpen (newCycle order s) = true) (hbarred : barredByResume (newCycle order s) a = false) :
    (wrapEvent order s).engine.nextSlot = 1 ∧ (wrapEvent order s).win = true ∧
    ((wrapEvent order s).engine.window = some (openedWindow 0 a.slot) ∨
      (wrapEvent order s).engine.window = some (windowGranted (openedWindow 0 a.slot))) ∧
    slotCounts (wrapEvent order s) =
      ((newCycle order s).plan.counters.windowsOpened + 1, (newCycle order s).plan.counters.windowsSkipped) := by
  have hnext : nextSlot? (newCycle order s) = some a := (nextSlot_newCycle order s).trans ha
  obtain ⟨r, htake⟩ := takeSlot_opened hnext he hgate hbarred
  unfold slotCounts
  rw [wrapEvent_of_slotAtZero ha h0, (win_conclude _ _).1, (win_conclude _ _).2]
  rw [newCycle_nextSlot] at htake
  rcases engine_conclude (newCycle order s) (takeSlot (newCycle order s)) with hc | ⟨w, hw, hc⟩ <;> rw [hc]
  · rw [htake]
    exact ⟨rfl, rfl, .inl rfl, rfl⟩
  · rw [htake] at hw ⊢
    obtain rfl := Option.some.inj hw
    exact ⟨rfl, rfl, .inr rfl, rfl⟩

end AtZero

/-! ### WRAP -/

/-- No window stands; and where one stood at the wrap, WIN is low and no request stands. -/
theorem noWindow_of_newCycle {order : List WrapAct} {s t : State} {n : Nat}
    (hengine : t.engine = { (newCycle order s).engine with nextSlot := n }) (hwin : t.win = (newCycle order s).win) :
    t.engine.window = none ∧ (s.engine.window ≠ none → t.win = false ∧ t.engine.request = false) := by
  rw [hengine, hwin]
  exact ⟨window_newCycle order s, fun hw => windowGone_newCycle hw order (window_newCycle order s)⟩

theorem resumeOffset_wrapEvent (order : List WrapAct) (s : State) :
    (wrapEvent order s).engine.resumeOffset = if holdExpires s.plan then some 0 else none :=
  (congrArg (fun v => v.2.2.1) (takeView_wrapEvent order s)).trans (resumeOffset_newCycle order s)

/-- The slot at OPEN 0, if there is one, is taken by the plan, the number and the gate that the wrap left (R84 to R87). -/
theorem wrapEvent_firstSlot (order : List WrapAct) (s : State) :
    let t := wrapEvent order s
    let k := s.plan.counters
    let k' := t.plan.counters
    let noWindow := t.engine.window = none ∧ (s.engine.window ≠ none → t.win = false ∧ t.engine.request = false)
    (NoneAtZero t →
      t.engine.nextSlot = 0 ∧ noWindow ∧ k'.windowsOpened = k.windowsOpened ∧ k'.windowsSkipped = k.windowsSkipped) ∧
    (∀ a, t.plan.active.head? = some a → a.slot.openAt = 0 →
      let barred := t.engine.resumeOffset = some 0 ∧ 0 < a.slot.span
      t.engine.nextSlot = 1 ∧
      (¬ eligibleIn t.timer.cycle a →
        noWindow ∧ k'.windowsOpened = k.windowsOpened ∧ k'.windowsSkipped = k.windowsSkipped) ∧
      (eligibleIn t.timer.cycle a → gateOpen t = false ∨ barred →
        noWindow ∧ k'.windowsOpened = k.windowsOpened ∧ k'.windowsSkipped = k.windowsSkipped + 1) ∧
      (eligibleIn t.timer.cycle a → gateOpen t = true → ¬ barred →
        t.win = true ∧ k'.windowsOpened = k.windowsOpened + 1 ∧ k'.windowsSkipped = k.windowsSkipped ∧
        ∃ w, t.engine.window = some w ∧ w.position = 0 ∧ w.openAt = 0 ∧ w.closeAt = a.slot.span ∧
          w.stream = a.slot.stream ∧ w.quota = a.slot.quota ∧ w.once = a.slot.once ∧ w.released ≤ 1)) := by
  have hcounts := slotCounts_newCycle order s
  simp only [slotCounts, Prod.mk.injEq] at hcounts
  obtain ⟨hopened, hskipped⟩ := hcounts
  have hview := takeView_wrapEvent order s
  simp only [takeView, Prod.mk.injEq] at hview
  obtain ⟨hactive, hgate, hresume, htimer⟩ := hview
  have hoffset : (newCycle order s).engine.resumeOffset = some 0 ∨ (newCycle order s).engine.resumeOffset = none := by
    rw [resumeOffset_newCycle]; split <;> simp
  refine ⟨fun hnone => ?_, fun a ha h0 => ?_⟩
  · have he : wrapEvent order s = newCycle order s := wrapEvent_of_noneAtZero (by
      unfold NoneAtZero at hnone ⊢; rwa [← hactive])
    rw [he]
    exact ⟨newCycle_nextSlot order s, noWindow_of_newCycle (n := (newCycle order s).engine.nextSlot) rfl rfl, hopened,
      hskipped⟩
  · rw [hactive] at ha
    rw [htimer, hgate, hresume]
    have hbarred := barredByResume_zero h0 hoffset
    refine ⟨?_, fun he => ?_, fun he hshut => ?_, fun he hopen hfree => ?_⟩
    · rcases slotTaking_cases (newCycle order s) a with he | ⟨he, hshut⟩ | ⟨he, hopen, hfree⟩
      · rw [(wrapEvent_passedOver ha h0 he).1]
      · rw [(wrapEvent_skipped ha h0 he hshut).1]
      · exact (wrapEvent_opened ha h0 he hopen hfree).1
    · obtain ⟨hengine, hwin, hplan⟩ := wrapEvent_passedOver ha h0 he
      exact ⟨noWindow_of_newCycle hengine hwin, by rw [hplan, hopened], by rw [hplan, hskipped]⟩
    · obtain ⟨hengine, hwin, hcount⟩ := wrapEvent_skipped ha h0 he (hshut.imp_right hbarred.2)
      simp only [slotCounts, Prod.mk.injEq] at hcount
      obtain ⟨ho, hs⟩ := hcount
      exact ⟨noWindow_of_newCycle hengine hwin, ho.trans hopened, hs.trans (by rw [hskipped])⟩
    · have hfree' := Bool.eq_false_iff.2 fun hb => hfree (hbarred.1 hb)
      obtain ⟨-, hwin, hwindow, hcount⟩ := wrapEvent_opened ha h0 he hopen hfree'
      simp only [slotCounts, Prod.mk.injEq] at hcount
      obtain ⟨ho, hs⟩ := hcount
      have hclose : a.slot.openAt + a.slot.span = a.slot.span := by rw [h0, Nat.zero_add]
      refine ⟨hwin, ho.trans (by rw [hopened]), hs.trans hskipped, ?_⟩
      rcases hwindow with hw | hw
      · exact ⟨_, hw, rfl, h0, hclose, rfl, rfl, rfl, Nat.zero_le 1⟩
      · exact ⟨_, hw, rfl, h0, hclose, rfl, rfl, rfl, Nat.le_refl 1⟩

/-- A transmission in progress loses the tick that is the wrap, if that has not come before, and no other (R14). -/
theorem wrapEvent_transmissions {s : State} {order : List WrapAct} (h : AtWrap s order) :
    let left (n : Nat) := if s.timer.wrapping then n else n - 1
    (∀ x, s.txU = some x → (wrapEvent order (reachWrap s)).txU = some { x with remaining := left x.remaining }) ∧
    (∀ x, s.txD = some x → (wrapEvent order (reachWrap s)).txD = some { x with remaining := left x.remaining }) := by
  have hdue : wrapDue s = true := by simp [wrapDue, h.due]
  have hlines := wrapEvent_keepsLines order (reachWrap s)
  rcases reachWrap_cases s with ⟨hw, -, he⟩ | ⟨hw | hw, he⟩
  · rw [hw]
    rw [he] at hlines ⊢
    exact ⟨fun x hx => hlines.txU _ (congrArg elapse hx), fun x hx => hlines.txD _ (congrArg elapse hx)⟩
  · rw [hw]
    rw [he] at hlines ⊢
    exact ⟨fun x hx => hlines.txU x hx, fun x hx => hlines.txD x hx⟩
  · rw [hdue] at hw; cases hw

/-- Settles O26. -/
theorem wrapBeginsCycle : Obligations.WrapBeginsCycle := by
  intro s order h
  have hreach := reachWrap_of_atWrap h
  have hengine : (reachWrap s).engine = s.engine := by rw [hreach]
  have hplan : (reachWrap s).plan = s.plan := by rw [hreach]
  have hfirst := wrapEvent_firstSlot order (reachWrap s)
  have hresume := resumeOffset_wrapEvent order (reachWrap s)
  have hstill : stillView (wrapEvent order (reachWrap s)) = stillView { s with cyc := true } :=
    (stillView_wrapEvent order (reachWrap s)).trans (by rw [hreach]; rfl)
  rw [hengine, hplan] at hfirst
  rw [hplan] at hresume
  simp only [stillView, Prod.mk.injEq] at hstill
  obtain ⟨hcyc, hportU, hportD, hmgmt, hmark, harea, haddr, hpower, hconditions, hpending⟩ := hstill
  refine ⟨wrapEvent order (reachWrap s), exec_wrap_of_atWrap h, congrArg Timer.offset (timer_wrapEvent order _), hcyc,
    hfirst, hresume.trans ?_, hportU, hportD, hmgmt, hmark, harea, haddr, hpower, hconditions, hpending,
    wrapEvent_transmissions h⟩
  simp [holdExpires, and_assoc]

end Sys2Proof.Cycles
end

section
/-! PROOF. The tick: what is due before it, that an event once taken is not due again, and that a tick takes what is due as its
own command would (R14, R55, R58, R84, R93, R129). -/

namespace Sys2Proof.Cycles

open Sys2Proof.Machine Sys2Proof.Safety Sys2Proof.Claims Sys2Proof.Link Sys2Proof.Invariants Sys2Proof.Requests
  Sys2Proof.Wraps

/-! ### The clock's events that are not due -/

/-- No completion is due on port D. -/
def NotDueD (s : State) : Prop := s.txD.map Transmission.remaining ≠ some 0

/-- No completion is due on port U. -/
def NotDueU (s : State) : Prop := s.txU.map Transmission.remaining ≠ some 0

/-- Neither a close nor a take is due. -/
structure EngineIdle (s : State) : Prop where
  close : s.engine.window.map Window.closeAt ≠ some s.timer.offset
  take : (s.plan.active.map ActiveSlot.slot)[s.engine.nextSlot]?.map Slot.openAt ≠ some s.timer.offset

/-- None of the clock's events is due at the present offset. -/
structure NothingDue (s : State) : Prop where
  portD : NotDueD s
  portU : NotDueU s
  engine : EngineIdle s
  cyc : s.cyc = true → s.timer.offset ≠ 32

theorem map_remaining_ne_zero_iff {σ : Type} (x : Option (Transmission σ)) :
    x.map Transmission.remaining ≠ some 0 ↔ ∀ t, x = some t → t.remaining ≠ 0 := by
  cases x <;> simp

theorem closeDue_eq_false_iff (s : State) :
    closeDue s = false ↔ s.engine.window.map Window.closeAt ≠ some s.timer.offset := by
  unfold closeDue
  cases s.engine.window <;> simp

theorem takeDue_eq_false_iff (s : State) :
    takeDue s = false ↔
      (s.plan.active.map ActiveSlot.slot)[s.engine.nextSlot]?.map Slot.openAt ≠ some s.timer.offset := by
  unfold takeDue nextSlot?
  rw [List.getElem?_map]
  cases s.plan.active[s.engine.nextSlot]? <;> simp

theorem finishD_of_notDue {s : State} (h : NotDueD s) : finishD s = s :=
  finishD_of_not_due ((map_remaining_ne_zero_iff _).1 h)

theorem finishU_of_notDue {s : State} (h : NotDueU s) : finishU s = s :=
  finishU_of_not_due ((map_remaining_ne_zero_iff _).1 h)

theorem finishEngine_of_idle {s : State} (h : EngineIdle s) : finishEngine s = s :=
  finishEngine_of_not_due ((closeDue_eq_false_iff s).2 h.close) ((takeDue_eq_false_iff s).2 h.take)

theorem dropCyc_of_not_due {s : State} (h : s.cyc = true → s.timer.offset ≠ 32) : dropCyc s = s := by
  have hdue : cycDue s = false := by
    unfold cycDue
    cases hc : s.cyc with
    | false => rfl
    | true => simpa [Config.cycHigh] using h hc
  unfold dropCyc
  rw [hdue]
  rfl

theorem settleClock_of_nothingDue {s : State} (h : NothingDue s) : settleClock s = s := by
  unfold settleClock
  rw [finishD_of_notDue h.portD, finishU_of_notDue h.portU, finishEngine_of_idle h.engine, dropCyc_of_not_due h.cyc]

theorem nothingDue_of_quiet {s : State} (h : Claims.Quiet s) : NothingDue s where
  portD := (map_remaining_ne_zero_iff _).2 h.txD
  portU := (map_remaining_ne_zero_iff _).2 h.txU
  engine := {
    close := by
      cases hw : s.engine.window with
      | none => simp
      | some w => simpa using h.close w hw
    take := by
      rw [List.getElem?_map]
      cases ha : s.plan.active[s.engine.nextSlot]? with
      | none => simp
      | some a => simpa using h.take a ha }
  cyc := h.cyc

/-! ### What the arbiters grant is not due to complete (R14) -/

theorem occupancy_ne_zero (n : Nat) : some (occupancy n) ≠ some 0 := by
  unfold occupancy
  simp

theorem notDueD_arbiterD {s : State} (h : NotDueD s) : NotDueD (arbiterD s) := by
  rcases arbiterD_cases s with he | ⟨-, ⟨m, he⟩ | ⟨w, x, q, -, -, -, he⟩ | ⟨b, q, -, he⟩⟩ <;> rw [he]
  · exact h
  · exact occupancy_ne_zero _
  · exact occupancy_ne_zero _
  · exact occupancy_ne_zero _

theorem notDueU_arbiterU {s : State} (h : NotDueU s) : NotDueU (arbiterU s) := by
  rcases arbiterU_cases s with he | ⟨-, ⟨b, q, -, he⟩ | ⟨r, he⟩ | ⟨r, -, he⟩⟩ <;> rw [he]
  · exact h
  · exact occupancy_ne_zero _
  · exact occupancy_ne_zero _
  · exact occupancy_ne_zero _

/-- What the arbiters do at the end of an event, for what each keeps. -/
theorem conclude_keeps {I : State → Prop} (hD : ∀ {s}, I s → I (arbiterD s)) (hU : ∀ {s}, I s → I (arbiterU s))
    (before : State) {s : State} (hs : I s) : I (conclude before s) := by
  have hd : I (if invokesD before s then arbiterD s else s) := by
    split
    · exact hD hs
    · exact hs
  unfold conclude
  dsimp only
  split
  · exact hU hd
  · exact hd

theorem notDueD_conclude (before : State) {s : State} (h : NotDueD s) : NotDueD (conclude before s) :=
  conclude_keeps (I := NotDueD) notDueD_arbiterD (fun {s} hs => by unfold NotDueD; rw [arbiterU_eq]; exact hs) before h

theorem notDueU_conclude (before : State) {s : State} (h : NotDueU s) : NotDueU (conclude before s) :=
  conclude_keeps (I := NotDueU) (fun {s} hs => by unfold NotDueU; rw [arbiterD_eq]; exact hs) notDueU_arbiterU before h

theorem engineIdle_conclude (before : State) {s : State} (h : EngineIdle s) : EngineIdle (conclude before s) := by
  have htimer : (conclude before s).timer = s.timer := by rw [conclude_eq]
  have hplan : (conclude before s).plan = s.plan := (win_conclude before s).2
  have hengine : (conclude before s).engine.window.map Window.closeAt = s.engine.window.map Window.closeAt ∧
      (conclude before s).engine.nextSlot = s.engine.nextSlot := by
    rcases engine_conclude before s with he | ⟨w, hw, he⟩ <;> rw [he]
    · exact ⟨rfl, rfl⟩
    · rw [hw]; exact ⟨rfl, rfl⟩
  exact ⟨by rw [hengine.1, htimer]; exact h.close, by rw [hengine.2, hplan, htimer]; exact h.take⟩

theorem nothingDue_conclude (before : State) {s : State} (h : NothingDue s) : NothingDue (conclude before s) where
  portD := notDueD_conclude before h.portD
  portU := notDueU_conclude before h.portU
  engine := engineIdle_conclude before h.engine
  cyc := by rw [conclude_eq]; exact h.cyc

/-! ### A completion is taken once (R14) -/

theorem notDueD_finishD (s : State) : NotDueD (finishD s) := by
  by_cases h : NotDueD s
  · rwa [finishD_of_notDue h]
  · unfold NotDueD at h
    rw [not_not, Option.map_eq_some_iff] at h
    obtain ⟨t, ht, h0⟩ := h
    rw [finishD_of_due ht h0, completeD_eq]
    refine notDueD_conclude s ?_
    unfold NotDueD
    cases t.source <;> nofun

theorem restartTx_remaining (s : State) (x : Option (Transmission SourceD)) :
    (x.map (restartTx s)).map Transmission.remaining = x.map Transmission.remaining := by
  have hone : ∀ t, (restartTx s t).remaining = t.remaining := fun t => by
    unfold restartTx
    split
    · split <;> rfl
    · rfl
    · rfl
    · rfl
  cases x with
  | none => rfl
  | some t => exact congrArg some (hone t)

/-- A completion on port U leaves its transmitter IDLE, and what is left of a transmission on port D. -/
theorem completeU_lines (t : Transmission SourceU) (s : State) :
    (completeU t s).txU = none ∧
      (completeU t s).txD.map Transmission.remaining = s.txD.map Transmission.remaining := by
  rcases completeU_cases t s with ⟨x, -, he⟩ | ⟨-, he | he | ⟨-, he⟩⟩ | ⟨-, he⟩ <;> rw [he]
  · exact ⟨rfl, rfl⟩
  · exact ⟨rfl, rfl⟩
  · exact ⟨rfl, restartTx_remaining _ _⟩
  · exact ⟨rfl, rfl⟩
  · exact ⟨rfl, rfl⟩

theorem notDue_finishU {s : State} (hD : NotDueD s) : NotDueD (finishU s) ∧ NotDueU (finishU s) := by
  by_cases h : NotDueU s
  · rw [finishU_of_notDue h]
    exact ⟨hD, h⟩
  · unfold NotDueU at h
    rw [not_not, Option.map_eq_some_iff] at h
    obtain ⟨t, ht, h0⟩ := h
    obtain ⟨hidle, hkept⟩ := completeU_lines t s
    rw [finishU_of_due ht h0]
    exact ⟨notDueD_conclude s (by unfold NotDueD; rw [hkept]; exact hD),
      notDueU_conclude s (by unfold NotDueU; rw [hidle]; nofun)⟩

/-! ### An event of the release engine is taken once (R84, R87, R93, R104) -/

theorem engine_takeSlot {s : State} {a : ActiveSlot} (ha : nextSlot? s = some a) :
    (takeSlot s).engine.nextSlot = s.engine.nextSlot + 1 ∧
      ((takeSlot s).engine.window = s.engine.window ∨
        (takeSlot s).engine.window = some (openedWindow s.engine.nextSlot a.slot)) := by
  rcases slotTaking_cases s a with he | ⟨he, hshut⟩ | ⟨he, hgate, hbarred⟩
  · rw [takeSlot_passedOver ha he]; exact ⟨rfl, .inl rfl⟩
  · rw [takeSlot_skipped ha he hshut]; exact ⟨rfl, .inl rfl⟩
  · obtain ⟨r, htake⟩ := takeSlot_opened ha he hgate hbarred
    rw [htake]
    exact ⟨rfl, .inr rfl⟩

/-- In a plan that keeps the ordering law the slot after `x` opens when the window of `x` closes, or later (R104). -/
theorem openAt_next {slots : List Slot} (h : PlanOrdered slots) {n : Nat} {x y : Slot} (hx : slots[n]? = some x)
    (hy : slots[n + 1]? = some y) : x.openAt + x.span ≤ y.openAt := by
  obtain ⟨hn, rfl⟩ := List.getElem?_eq_some_iff.1 hx
  obtain ⟨hn', rfl⟩ := List.getElem?_eq_some_iff.1 hy
  exact List.pairwise_iff_getElem.1 h.ordered n (n + 1) hn hn' (Nat.lt_succ_self n)

/-- The slot after the one taken opens later, and the window of the slot taken closes later. -/
theorem engineIdle_takeSlot {s : State} (hplan : PlanOrdered (s.plan.active.map ActiveSlot.slot))
    (hclose : s.engine.window.map Window.closeAt ≠ some s.timer.offset) (hdue : takeDue s = true) :
    EngineIdle (takeSlot s) := by
  have hslots : (takeSlot s).plan.active.map ActiveSlot.slot = s.plan.active.map ActiveSlot.slot :=
    congrArg (fun v => v.2.1) (planView_takeSlot s)
  have htimer : (takeSlot s).timer = s.timer := congrArg (fun v => v.2.2.2) (takeView_takeSlot s)
  obtain ⟨a, ha, h0⟩ : ∃ a, nextSlot? s = some a ∧ a.slot.openAt = s.timer.offset := by
    unfold takeDue at hdue
    split at hdue
    · rename_i a ha; exact ⟨a, ha, by simpa using hdue⟩
    · cases hdue
  have hx : (s.plan.active.map ActiveSlot.slot)[s.engine.nextSlot]? = some a.slot := by
    rw [List.getElem?_map]; exact congrArg _ ha
  have hspan : 8 ≤ a.slot.span := (hplan.ranges _ (List.mem_of_getElem? hx)).spanLow
  obtain ⟨hnext, hwindow⟩ := engine_takeSlot ha
  constructor
  · rw [htimer]
    rcases hwindow with hw | hw <;> rw [hw]
    · exact hclose
    · intro hc
      have hlate : a.slot.openAt + a.slot.span = s.timer.offset := Option.some.inj hc
      omega
  · rw [hslots, hnext, htimer]
    intro hc
    obtain ⟨y, hy, hopen⟩ := Option.map_eq_some_iff.1 hc
    have := openAt_next hplan hx hy
    omega

theorem engineIdle_engineEvent {s : State} (hplan : PlanOrdered (s.plan.active.map ActiveSlot.slot)) :
    EngineIdle (engineEvent s) := by
  obtain ⟨v, hv, hslots, hclosed⟩ : ∃ v, v = (if closeDue s then closeWindow s else s) ∧
      PlanOrdered (v.plan.active.map ActiveSlot.slot) ∧
      v.engine.window.map Window.closeAt ≠ some v.timer.offset := by
    refine ⟨_, rfl, ?_⟩
    cases hdue : closeDue s with
    | true =>
      have hkept : (closeWindow s).plan.active.map ActiveSlot.slot = s.plan.active.map ActiveSlot.slot :=
        congrArg (fun v => v.2.1) (planView_closeWindow s)
      refine ⟨hkept ▸ hplan, ?_⟩
      have hgone : (closeWindow s).engine.window = none := window_endWindow (missedCheck s)
      show (closeWindow s).engine.window.map _ ≠ _
      rw [hgone]
      nofun
    | false => exact ⟨hplan, (closeDue_eq_false_iff s).1 hdue⟩
  have hevent : engineEvent s = if takeDue v then takeSlot v else v := by rw [hv]; rfl
  rw [hevent]
  cases hdue : takeDue v with
  | true => exact engineIdle_takeSlot hslots hclosed hdue
  | false => exact ⟨hclosed, (takeDue_eq_false_iff v).1 hdue⟩

theorem engineIdle_finishEngine {s : State} (hplan : PlanOrdered (s.plan.active.map ActiveSlot.slot)) :
    EngineIdle (finishEngine s) := by
  cases hdue : closeDue s || takeDue s with
  | true =>
    have he : finishEngine s = conclude s (engineEvent s) := by unfold finishEngine; rw [hdue]; rfl
    rw [he]
    exact engineIdle_conclude s (engineIdle_engineEvent hplan)
  | false =>
    obtain ⟨hc, ht⟩ := Bool.or_eq_false_iff.1 hdue
    rw [finishEngine_of_not_due hc ht]
    exact ⟨(closeDue_eq_false_iff s).1 hc, (takeDue_eq_false_iff s).1 ht⟩

/-- The release engine's event leaves both transmitters' frames, and may have port D begin one (R90, R99). -/
theorem notDue_finishEngine {s : State} (hD : NotDueD s) (hU : NotDueU s) :
    NotDueD (finishEngine s) ∧ NotDueU (finishEngine s) := by
  unfold finishEngine
  split
  · exact ⟨notDueD_conclude s (by unfold NotDueD; rw [engineEvent_eq]; exact hD),
      notDueU_conclude s (by unfold NotDueU; rw [engineEvent_eq]; exact hU)⟩
  · exact ⟨hD, hU⟩

/-! ### A request leaves the clock's events (R129) -/

/-- All that decides which of the clock's events is due. -/
def dueView (s : State) :=
  (s.txD.map Transmission.remaining, s.txU.map Transmission.remaining, s.engine.window.map Window.closeAt,
    s.engine.nextSlot, s.plan.active.map ActiveSlot.slot, s.timer.offset, s.cyc)

theorem nothingDue_of_view {s t : State} (h : NothingDue s) (hv : dueView t = dueView s) : NothingDue t := by
  simp only [dueView, Prod.mk.injEq] at hv
  obtain ⟨htxD, htxU, hwindow, hnext, hslots, hoffset, hcyc⟩ := hv
  refine ⟨by unfold NotDueD; rw [htxD]; exact h.portD, by unfold NotDueU; rw [htxU]; exact h.portU, ⟨?_, ?_⟩, ?_⟩
  · rw [hwindow, hoffset]; exact h.engine.close
  · rw [hslots, hnext, hoffset]; exact h.engine.take
  · rw [hcyc, hoffset]; exact h.cyc

theorem nothingDue_gateEnds {before after : State} (h : NothingDue after) : NothingDue (gateEnds before after) := by
  rcases gateEnds_cases before after with ⟨-, -, he⟩ | ⟨-, he⟩ <;> rw [he]
  · have hslots : (endWindow after).plan.active.map ActiveSlot.slot = after.plan.active.map ActiveSlot.slot :=
      congrArg (fun v => v.2.1) (planView_endWindow after)
    rcases endWindow_eq after with ⟨-, hw⟩ | ⟨w, -, hw⟩
    · rwa [hw]
    · have htake : EngineIdle (endWindow after) :=
        ⟨by rw [hw]; nofun, by rw [hslots, hw]; exact h.engine.take⟩
      rw [hw] at htake ⊢
      exact ⟨h.portD, h.portU, htake, h.cyc⟩
  · exact h

theorem detach_remaining (i : StreamId) (s : State) :
    (detach i s).txD.map Transmission.remaining = s.txD.map Transmission.remaining := by
  unfold detach
  split
  · rename_i t ht
    split
    · split
      · rw [ht]; rfl
      · rfl
    · rfl
    · rfl
    · rfl
  · rfl

theorem dueView_detach (i : StreamId) (s : State) : dueView (detach i s) = dueView s := by
  unfold dueView
  rw [detach_remaining, detach_eq]

theorem dueView_purgeQueue (i : StreamId) (s : State) : dueView (purgeQueue i s) = dueView s := by
  unfold purgeQueue
  dsimp only
  rw [withdrawIfEmpty_eq, freeBufs_eq]
  rfl

theorem dueView_report (o : Occurrence) (s : State) : dueView (report o s) = dueView s := by
  rw [report_eq]; rfl

theorem nothingDue_effect {s t : State} (h : NothingDue s) (he : Effect s t) : NothingDue t := by
  cases he with
  | deleteStream =>
    exact nothingDue_of_view h ((dueView_detach _ _).trans (dueView_purgeQueue _ s))
  | purge => exact nothingDue_of_view h (dueView_purgeQueue _ s)
  | hold limit => exact nothingDue_gateEnds (nothingDue_of_view h rfl)
  | configureSync => exact nothingDue_gateEnds (nothingDue_of_view h (by rw [reportSync_eq]; rfl))
  | zero g =>
    refine nothingDue_of_view h ?_
    cases g with
    | port p => cases p <;> rfl
    | _ => rfl
  | _ => exact nothingDue_of_view h rfl

theorem nothingDue_takeOldest {s : State} (h : NothingDue s) : NothingDue (takeOldest s) := by
  cases hn : nextRequest s with
  | none => rwa [takeOldest_of_none hn]
  | some f =>
    rw [takeOldest_eq hn]
    exact nothingDue_conclude s (answered_keeps (I := NothingDue) nothingDue_effect
      (fun _ hs => nothingDue_of_view hs rfl) (fun o hs => nothingDue_of_view hs (dueView_report o _)) h
      (answered_runOf _ f _))

/-! ### TICK (R14, R55, R58, R129) -/

/-- A running part whose next tick is still to come. -/
def Ticking (s : State) : Prop := s.power = .running ∧ s.timer.wrapping = false

theorem ticking_of_clockView {s t : State} (h : Ticking s) (hv : clockView t = clockView s) : Ticking t := by
  simp only [clockView, Prod.mk.injEq] at hv
  obtain ⟨hpower, htimer, -⟩ := hv
  exact ⟨hpower.trans h.1, by rw [htimer]; exact h.2⟩

theorem ticking_finishU {s : State} (h : Ticking s) : Ticking (finishU s) := by
  obtain ⟨hpower, ht | ht⟩ := finishU_power_timer s
  · exact ⟨hpower.trans h.1, by rw [ht]; exact h.2⟩
  · exact ⟨hpower.trans h.1, by rw [ht]⟩

theorem tickEvent_of_ticking {s : State} (h : Ticking s) :
    tickEvent s = if wrapDue (settle s) then comeToWrap (settle s) else advance (settle s) := by
  unfold tickEvent
  rw [h.2]
  rfl

/-- Two states that settle alike tick alike. -/
theorem exec_tick_of_settle {s u : State} (hs : Ticking s) (hu : Ticking u) (h : settle u = settle s) :
    exec .tick s = exec .tick u := by
  rw [exec_tick hs.1, exec_tick hu.1, tickEvent_of_ticking hs, tickEvent_of_ticking hu, h]

theorem exec_tick_of_settleClock {s u : State} (hs : Ticking s) (hu : Ticking u) (h : settleClock u = settleClock s) :
    exec .tick s = exec .tick u :=
  exec_tick_of_settle hs hu (congrArg takeWaiting h)

/-! #### A tick takes what is due as its own command does -/

theorem settleClock_finishD (s : State) : settleClock (finishD s) = settleClock s := by
  unfold settleClock
  rw [finishD_of_notDue (notDueD_finishD s)]

theorem settleClock_finishU {s : State} (h : NotDueD s) : settleClock (finishU s) = settleClock s := by
  obtain ⟨hD, hU⟩ := notDue_finishU h
  unfold settleClock
  rw [finishD_of_notDue hD, finishU_of_notDue hU, finishD_of_notDue h]

theorem settleClock_finishEngine {s : State} (hD : NotDueD s) (hU : NotDueU s)
    (hplan : PlanOrdered (s.plan.active.map ActiveSlot.slot)) : settleClock (finishEngine s) = settleClock s := by
  obtain ⟨hD', hU'⟩ := notDue_finishEngine hD hU
  unfold settleClock
  rw [finishD_of_notDue hD', finishU_of_notDue hU', finishEngine_of_idle (engineIdle_finishEngine hplan),
    finishD_of_notDue hD, finishU_of_notDue hU]

theorem dropCyc_cases (s : State) : dropCyc s = s ∨ dropCyc s = { s with cyc := false } := by
  unfold dropCyc
  cases cycDue s <;> simp

/-- With nothing due but the fall of CYC, the clock's events are that fall. -/
theorem settleClock_of_only_cyc {s : State} (hD : NotDueD s) (hU : NotDueU s) (hE : EngineIdle s) :
    settleClock s = dropCyc s := by
  unfold settleClock
  rw [finishD_of_notDue hD, finishU_of_notDue hU, finishEngine_of_idle hE]

theorem settleClock_dropCyc {s : State} (h : Claims.Quiet { s with cyc := false }) :
    settleClock (dropCyc s) = settleClock s := by
  obtain ⟨hD, hU, ⟨hclose, htake⟩, -⟩ := nothingDue_of_quiet h
  rw [settleClock_of_only_cyc (s := s) hD hU ⟨hclose, htake⟩]
  rcases dropCyc_cases s with he | he
  · rw [he, settleClock_of_only_cyc (s := s) hD hU ⟨hclose, htake⟩, he]
  · rw [he]
    exact settleClock_of_claimsQuiet h

/-- A tick that finds a request waiting takes it, as the request's own step does (R129). -/
theorem settle_takeOldest {s : State} (h : NothingDue s) {f : FrameBytes} {rest : List FrameBytes}
    (ht : Takes s f rest) : settle (takeOldest s) = settle s := by
  have hview := clockView_takeOldest (nextRequest_of_takes ht)
  have hrest : (takeOldest s).mgmt.input = rest :=
    (congrArg (fun v => v.2.2) hview).trans (congrArg List.tail ht.head)
  unfold settle
  rw [settleClock_of_nothingDue h, settleClock_of_nothingDue (nothingDue_takeOldest h)]
  unfold takeWaiting
  rw [hrest, ht.head]
  rfl

/-- The step of a request that has left the queue is the taking of the oldest request. -/
theorem takeOldest_of_requestStep {s u : State} {f : FrameBytes} {rest : List FrameBytes} (ht : Takes s f rest)
    {c : Instr} (hc : c ∈ requestSteps) (he : exec c s = .next u) (hu : u.mgmt.input = rest) : u = takeOldest s := by
  have hnext := nextRequest_of_takes ht
  obtain ⟨r, hr⟩ := Option.isSome_iff_exists.1 (requestRow_of_requestSteps c hc)
  rw [exec_of_requestRow hr] at he
  injection he with he
  subst he
  rcases takeRequest_cases r (runOf r) s with hidle | ⟨g, hg, hrow, htaken⟩
  · rw [hidle, ht.head] at hu
    exact absurd (congrArg List.length hu) (by simp)
  · rw [htaken, takeOldest_eq hg, hrow]

theorem exec_transmissionComplete_next {s u : State} {p : Port} (hrun : s.power = .running)
    (h0 : ticksLeft p s = some 0) (h : exec (.transmissionComplete p) s = .next u) : u = finishPort p s := by
  rw [exec_transmissionComplete hrun (endsWithWrap_of_due h0)] at h
  injection h with h
  exact h.symm

theorem exec_slotTake_next {s u : State} (hrun : s.power = .running) (hdue : takeDue s = true)
    (h : exec .slotTake s = .next u) : u = finishEngine s := by
  injection h with h
  exact h.symm.trans (if_pos ⟨hrun, hdue⟩)

theorem exec_windowClose_next {s u : State} (hrun : s.power = .running) (hdue : closeDue s = true)
    (h : exec .windowClose s = .next u) : u = finishEngine s := by
  injection h with h
  exact h.symm.trans (if_pos ⟨hrun, hdue⟩)

theorem exec_cycFall {s : State} (hrun : s.power = .running) : exec .cycFall s = .next (dropCyc s) :=
  congrArg Host.Outcome.next (if_pos hrun)

/-- A tick before which nothing is due (R55). -/
theorem exec_tick_of_quiet {s : State} (h : Claims.Quiet s) (hu : Unasked s) :
    exec .tick s = .next (if wrapDue s then comeToWrap s else advance s) := by
  have hsettle : settle s = s := by
    unfold settle
    rw [settleClock_of_claimsQuiet h, takeWaiting_of_none (nextRequest_of_unasked hu)]
  rw [exec_tick h.running, tickEvent_of_ticking ⟨h.running, h.coming⟩, hsettle]

/-- CYC falls at offset 32 (R58). -/
theorem dropCyc_at_fall {s : State} (h : s.timer.offset = 32) : dropCyc s = { s with cyc := false } := by
  unfold dropCyc
  cases hc : s.cyc with
  | true => exact if_pos (by simp [cycDue, hc, h, Config.cycHigh])
  | false => rw [if_neg (by simp [cycDue, hc])]; exact (congrArg (fun c => { s with cyc := c }) hc)

section Due

variable {s u : State} (h : Ticking s)
include h

theorem exec_tick_completeD {t : Transmission SourceD} (ht : s.txD = some t) (h0 : t.remaining = 0)
    (hu : exec (.transmissionComplete .d) s = .next u) : exec .tick s = exec .tick u := by
  have hleft : ticksLeft .d s = some 0 := by rw [← h0]; exact congrArg (Option.map Transmission.remaining) ht
  rw [exec_transmissionComplete_next h.1 hleft hu]
  exact exec_tick_of_settleClock h (ticking_of_clockView h (clockView_finishD s)) (settleClock_finishD s)

theorem exec_tick_completeU (hD : NotDueD s) {t : Transmission SourceU} (ht : s.txU = some t) (h0 : t.remaining = 0)
    (hu : exec (.transmissionComplete .u) s = .next u) : exec .tick s = exec .tick u := by
  have hleft : ticksLeft .u s = some 0 := by rw [← h0]; exact congrArg (Option.map Transmission.remaining) ht
  rw [exec_transmissionComplete_next h.1 hleft hu]
  exact exec_tick_of_settleClock h (ticking_finishU h) (settleClock_finishU hD)

theorem exec_tick_finishEngine (hD : NotDueD s) (hU : NotDueU s)
    (hplan : PlanOrdered (s.plan.active.map ActiveSlot.slot)) : exec .tick s = exec .tick (finishEngine s) :=
  exec_tick_of_settleClock h (ticking_of_clockView h (clockView_finishEngine s)) (settleClock_finishEngine hD hU hplan)

theorem exec_tick_dropCyc (hq : Claims.Quiet { s with cyc := false }) : exec .tick s = exec .tick (dropCyc s) :=
  exec_tick_of_settleClock h (ticking_of_clockView h (clockView_dropCyc s)) (settleClock_dropCyc hq)

theorem exec_tick_takeOldest (hq : Claims.Quiet s) {f : FrameBytes} {rest : List FrameBytes} (ht : Takes s f rest) :
    exec .tick s = exec .tick (takeOldest s) :=
  exec_tick_of_settle h (ticking_of_clockView (s := takeHead s) h (clockView_takeOldest (nextRequest_of_takes ht)))
    (settle_takeOldest (nothingDue_of_quiet hq) ht)

end Due

/-- Settles O22. -/
theorem tickAdvances : Obligations.TickAdvances := by
  refine ⟨fun s hq hun => ⟨fun hlt => ?_, fun hlast => ?_⟩, fun s hrun hw => ?_, fun s hrun h32 => ?_,
    fun s u hrun hw => ⟨fun t ht h0 hu => ?_, fun t ht h0 hD hu => ?_, fun hD hU hplan => ⟨fun w hwin hclose hu => ?_,
      fun a ha hopen hu => ?_⟩, fun hq h32 hu => ?_, fun hq f rest ht c hc hu hin => ?_⟩⟩
  · have hdue : wrapDue s = false := by simp [wrapDue]; omega
    rw [exec_tick_of_quiet hq hun, hdue]
    rfl
  · have hdue : wrapDue s = true := by simp [wrapDue]; omega
    rw [exec_tick_of_quiet hq hun, hdue]
    rfl
  · rw [exec_tick hrun]
    exact congrArg Host.Outcome.next (if_pos hw)
  · rw [exec_cycFall hrun, dropCyc_at_fall h32]
  · exact exec_tick_completeD ⟨hrun, hw⟩ ht h0 hu
  · exact exec_tick_completeU ⟨hrun, hw⟩ ((map_remaining_ne_zero_iff _).2 hD) ht h0 hu
  · have hdue : closeDue s = true := by unfold closeDue; rw [hwin]; simpa using hclose
    rw [exec_windowClose_next hrun hdue hu]
    exact exec_tick_finishEngine ⟨hrun, hw⟩ ((map_remaining_ne_zero_iff _).2 hD) ((map_remaining_ne_zero_iff _).2 hU) hplan
  · have hdue : takeDue s = true := by unfold takeDue nextSlot?; rw [ha]; simpa using hopen
    rw [exec_slotTake_next hrun hdue hu]
    exact exec_tick_finishEngine ⟨hrun, hw⟩ ((map_remaining_ne_zero_iff _).2 hD) ((map_remaining_ne_zero_iff _).2 hU) hplan
  · rw [exec_cycFall hrun] at hu
    injection hu with hu
    rw [← hu]
    exact exec_tick_dropCyc ⟨hrun, hw⟩ hq
  · rw [takeOldest_of_requestStep ht hc hu hin]
    exact exec_tick_takeOldest ⟨hrun, hw⟩ hq ht

end Sys2Proof.Cycles
end

section
/-! PROOF. The guard's distance to the next eligible OPEN, and the settling of the obligation on it (R81, R101, R102, R104);
the laws of the window at every step (R83, R86 to R92, R96, R98). -/

namespace Sys2Proof.Windows

open Sys2Proof.Machine Sys2Proof.Safety Sys2Proof.Claims Sys2Proof.Invariants Sys2Proof.Cycles

/-- Settles O56: all that happens in a running part keeps the laws of the window, with the ordering law of the plans and
the bounds of the entries that they rest on; a step of the part is made of it. -/
theorem windowLawsKept : Obligations.WindowLawsKept := fun _ _ hs he => windowLaws_lift.step hs he

/-! ### The first slot found is the one that opens first (R102, R104) -/

/-- Each window of the active slots ends at or before the OPEN of every slot that follows it (R104). -/
def SlotsInOrder (l : List ActiveSlot) : Prop := l.Pairwise fun x y => x.slot.openAt + x.slot.span ≤ y.slot.openAt

theorem slotsInOrder_of_planOrdered {l : List ActiveSlot} (h : PlanOrdered (l.map ActiveSlot.slot)) : SlotsInOrder l :=
  List.pairwise_map.1 h.ordered

/-- The slot a search finds opens no earlier than `n` exactly if none that the search looks for does. -/
theorem le_openAt_of_find?_iff {l : List ActiveSlot} (hl : SlotsInOrder l) {p : ActiveSlot → Bool} {a : ActiveSlot}
    (ha : l.find? p = some a) (n : Nat) : n ≤ a.slot.openAt ↔ ∀ b ∈ l, p b = true → n ≤ b.slot.openAt := by
  obtain ⟨hpa, pre, post, rfl, hpre⟩ := List.find?_eq_some_iff_append.1 ha
  refine ⟨fun hn b hb hp => ?_, fun h => h a (by simp) hpa⟩
  rcases List.mem_append.1 hb with hb | hb
  · exact absurd hp (by simpa using hpre b hb)
  · rcases List.mem_cons.1 hb with rfl | hb
    · exact hn
    · have hlater := List.rel_of_pairwise_cons (List.pairwise_append.1 hl).2.1 hb
      omega

/-! ### What the guard asks (R101) -/

theorem windowOpen_iff (s : State) : windowOpen s = true ↔ ∃ w, s.engine.window = some w ∧ w.phase = .opened := by
  unfold windowOpen
  cases s.engine.window <;> simp

/-- A window that stands DONE does not stand OPEN. -/
theorem windowOpen_of_done {s : State} (h : ∀ w, s.engine.window = some w → w.phase = .done) : windowOpen s = false :=
  Bool.eq_false_iff.2 fun ho => by
    obtain ⟨w, hw, hopened⟩ := (windowOpen_iff s).1 ho
    rw [h w hw] at hopened
    cases hopened

theorem guardAllows_of_gate_shut {s : State} (h : gateOpen s = false) (len : Nat) : guardAllows s len = true := by
  simp [guardAllows, h]

theorem guardAllows_of_windowOpen {s : State} (hgate : gateOpen s = true) (h : windowOpen s = true) (len : Nat) :
    guardAllows s len = false := by
  simp [guardAllows, hgate, h]

/-- With the gate open and no window OPEN the distance decides: the frame fits into it, or there is none. -/
theorem guardAllows_iff_fits {s : State} (hgate : gateOpen s = true) (h : windowOpen s = false) (len : Nat) :
    guardAllows s len = true ↔ ∀ d, guardDistance s = some d → occupancy len + s.mgmt.guardMargin ≤ d := by
  unfold guardAllows
  rw [hgate, h]
  cases guardDistance s <;> simp

/-! ### The distance (R102) -/

theorem guardDistance_this_cycle {s : State} {a : ActiveSlot} (h : searchThisCycle s = some a) :
    guardDistance s = some (a.slot.openAt - s.timer.offset) := by
  unfold guardDistance
  rw [h]

theorem guardDistance_next_cycle {s : State} (h : searchThisCycle s = none) :
    guardDistance s =
      (searchNextCycle s).map fun a => (s.timer.cl - s.timer.offset) + a.slot.openAt := by
  unfold guardDistance
  rw [h]
  cases searchNextCycle s <;> rfl

/-- An active slot that is still ahead in this cycle: from the next-slot position on, OPEN below CL, eligible (R102). -/
def StillAhead (s : State) (a : ActiveSlot) : Prop :=
  a ∈ s.plan.active.drop s.engine.nextSlot ∧ a.slot.openAt < s.timer.cl ∧ eligibleIn s.timer.cycle a

/-- What the search in the current cycle looks for. -/
theorem stillAhead_iff (s : State) (a : ActiveSlot) :
    StillAhead s a ↔ a ∈ s.plan.active.drop s.engine.nextSlot ∧
      (decide (a.slot.openAt < s.timer.cl) && eligible s.timer.cycle a) = true := by
  rw [Bool.and_eq_true, decide_eq_true_iff, eligible_iff]
  rfl

theorem searchThisCycle_eq_none_iff (s : State) : searchThisCycle s = none ↔ ¬ ∃ a, StillAhead s a := by
  simp only [searchThisCycle, List.find?_eq_none, stillAhead_iff, not_exists, not_and]

/-- A frame fits before the next OPEN of this cycle exactly if it ends in time before every one still ahead. -/
theorem fits_this_cycle_iff {s : State} (hplan : SlotsInOrder s.plan.active) {need : Nat} (hneed : 0 < need)
    (hahead : ∃ a, StillAhead s a) :
    (∀ d, guardDistance s = some d → need ≤ d) ↔ ∀ a, StillAhead s a → s.timer.offset + need ≤ a.slot.openAt := by
  obtain ⟨a, ha⟩ := Option.ne_none_iff_exists'.1 fun hn => (searchThisCycle_eq_none_iff s).1 hn hahead
  have hfirst := le_openAt_of_find?_iff (hplan.drop (i := s.engine.nextSlot)) ha (s.timer.offset + need)
  have hsub : need ≤ a.slot.openAt - s.timer.offset ↔ s.timer.offset + need ≤ a.slot.openAt := by omega
  simp only [guardDistance_this_cycle ha, Option.some.injEq, forall_eq', hsub, hfirst, stillAhead_iff, and_imp]

/-- With none left in this cycle, a frame fits exactly if it ends in time before every OPEN that is eligible in the
next. -/
theorem fits_next_cycle_iff {s : State} (hplan : SlotsInOrder s.plan.active) (hoffset : s.timer.offset < s.timer.cl)
    (need : Nat) (hnone : ¬ ∃ a, StillAhead s a) :
    (∀ d, guardDistance s = some d → need ≤ d) ↔
      ∀ a ∈ s.plan.active, eligibleIn (s.timer.cycle + 1) a → s.timer.offset + need ≤ s.timer.cl + a.slot.openAt := by
  rw [guardDistance_next_cycle ((searchThisCycle_eq_none_iff s).2 hnone)]
  cases ha : searchNextCycle s with
  | none =>
    have hnoneNext : ∀ a ∈ s.plan.active, ¬ eligible (s.timer.cycle + 1) a = true := List.find?_eq_none.1 ha
    refine iff_of_true (by simp) fun a hmem he => absurd ((eligible_iff _ _).2 he) (hnoneNext a hmem)
  | some a =>
    have hfirst := le_openAt_of_find?_iff hplan ha (s.timer.offset + need - s.timer.cl)
    have hsub : need ≤ s.timer.cl - s.timer.offset + a.slot.openAt ↔
        s.timer.offset + need - s.timer.cl ≤ a.slot.openAt := by omega
    simp only [Option.map_some, Option.some.injEq, forall_eq', hsub, hfirst, eligible_iff, Nat.sub_le_iff_le_add']

theorem occupancy_add_margin (len margin : Nat) : occupancy len + margin = 32 + 4 * len + margin := by
  unfold occupancy
  omega

/-- Settles O15: in a plan that keeps the ordering law the first slot the search finds is the one that opens first. -/
theorem guardProtectsNextOpen : Obligations.GuardProtectsNextOpen := by
  intro s len hoffset need ahead hplan
  have hslots := slotsInOrder_of_planOrdered hplan
  have hneed : 0 < need := by show 0 < 32 + 4 * len + s.mgmt.guardMargin; omega
  have hfits : gateOpen s = true → windowOpen s = false →
      (guardAllows s len = true ↔ ∀ d, guardDistance s = some d → need ≤ d) := fun hgate hopen => by
    rw [guardAllows_iff_fits hgate hopen, occupancy_add_margin]
  refine ⟨fun hgate => guardAllows_of_gate_shut hgate len, fun hgate hw => ?_, fun hgate hdone hahead => ?_,
    fun hgate hdone hnone => ?_⟩
  · exact guardAllows_of_windowOpen hgate ((windowOpen_iff s).2 hw) len
  · exact (hfits hgate (windowOpen_of_done hdone)).trans (fits_this_cycle_iff hslots hneed hahead)
  · exact (hfits hgate (windowOpen_of_done hdone)).trans (fits_next_cycle_iff hslots hoffset need hnone)

end Sys2Proof.Windows
end

section
/-! PROOF. The take of a slot and the close of a window as the release engine's event, and the settling of the obligations on
them (R81, R84 to R88, R92, R93, R96 to R98, R100). -/

namespace Sys2Proof.Windows

open Sys2Proof.Machine Sys2Proof.Safety Sys2Proof.Claims Sys2Proof.Link Sys2Proof.Invariants Sys2Proof.Wraps
  Sys2Proof.Requests Sys2Proof.Cycles

/-! ### The take, spelled out (R84 to R86, R88, R97) -/

/-- A window opens with a request exactly where its stream holds frames (R85, R88). -/
theorem openWindow_request (pos : Nat) (x : Slot) (s : State) :
    (openWindow pos x s).engine.request = decide ((s.stream x.stream).queue ≠ []) := by
  unfold openWindow
  rw [raiseRequest_request]
  show (false || (true && !(s.stream x.stream).queue.isEmpty && true && true)) = _
  cases (s.stream x.stream).queue <;> rfl

theorem takeSlot_of_opened {s : State} {a : ActiveSlot} (ha : nextSlot? s = some a) (he : eligibleIn s.timer.cycle a)
    (hgate : gateOpen s = true) (hbarred : barredByResume s a = false) :
    takeSlot s = openWindow s.engine.nextSlot a.slot
      { s with engine := { s.engine with nextSlot := s.engine.nextSlot + 1 } } := by
  have hopen : (gateOpen s && !barredByResume s a) = true := by simp [hgate, hbarred]
  unfold takeSlot
  rw [ha]
  exact (if_pos ((eligible_iff _ _).2 he)).trans (if_pos hopen)

/-- A slot is not eligible in a cycle that is not its own, or once it is SPENT (R81). -/
theorem not_eligibleIn_iff (c : Cycle) (a : ActiveSlot) :
    ¬ eligibleIn c a ↔ c.toNat % a.slot.every ≠ a.slot.phase ∨ a.spent = true := by
  unfold eligibleIn
  rw [not_and_or, Bool.not_eq_false]

/-- A slot is taken as it is spelled out: passed over, skipped or opened (R84 to R86, R97). -/
theorem takeSlot_eq_slotTaken {s : State} {a : ActiveSlot} (ha : nextSlot? s = some a) :
    takeSlot s = slotTaken a s := by
  unfold slotTaken
  rcases slotTaking_cases s a with he | ⟨he, hshut⟩ | ⟨he, hgate, hfree⟩
  · rw [takeSlot_passedOver ha he]
    exact (if_pos ((not_eligibleIn_iff _ _).1 he)).symm
  · rw [takeSlot_skipped ha he hshut]
    refine ((if_neg fun h => (not_eligibleIn_iff _ _).2 h he).trans (if_neg fun ⟨hgate, hfree⟩ => ?_)).symm
    have hbarred := hshut.resolve_left (by simp [hgate])
    unfold barredByResume at hbarred
    cases hr : s.engine.resumeOffset with
    | none => rw [hr] at hbarred; cases hbarred
    | some r =>
      rw [hr] at hbarred hfree
      exact Bool.false_ne_true (hfree.symm.trans ((Bool.decide_and _ _).trans hbarred))
  · have hrequest := congrArg (fun t => t.engine.request) (takeSlot_of_opened ha he hgate hfree)
    rw [openWindow_request] at hrequest
    obtain ⟨r, htake⟩ := takeSlot_opened ha he hgate hfree
    rw [htake] at hrequest ⊢
    obtain rfl : r = _ := hrequest
    refine ((if_neg fun h => (not_eligibleIn_iff _ _).2 h he).trans (if_pos ⟨hgate, ?_⟩)).symm
    unfold barredByResume at hfree
    cases hr : s.engine.resumeOffset with
    | none => rfl
    | some r =>
      rw [hr] at hfree
      exact (Bool.decide_and _ _).trans hfree

/-- The next-slot position moves, which invokes port D's arbiter and not port U's (R32, R100). -/
theorem conclude_takeSlot {s : State} {a : ActiveSlot} (ha : nextSlot? s = some a) :
    conclude s (takeSlot s) = arbiterD (takeSlot s) := by
  have hD : invokesD s (takeSlot s) = true := by simp [invokesD, (engine_takeSlot ha).1]
  have hU : invokesU s (takeSlot s) = false := invokesU_of_view_eq (by rw [takeSlot_eq]; rfl)
  simp [conclude, hD, hU]

/-! ### The close, spelled out (R92, R96) -/

/-- The end of a window does not depend on the note unit, nor does it change it. -/
theorem endWindow_notes (n : Notes) (s : State) : endWindow { s with notes := n } = { endWindow s with notes := n } := by
  rw [endWindow_eq_windowEnded, endWindow_eq_windowEnded]
  unfold windowEnded
  show (match s.engine.window with | some w => _ | none => _) = _
  cases s.engine.window <;> rfl

theorem endWindow_report (o : Occurrence) (s : State) : endWindow (report o s) = report o (endWindow s) := by
  refine report_comm o (fun n => endWindow_notes n s) ?_ ?_ <;>
    rcases endWindow_eq s with ⟨-, he⟩ | ⟨w, -, he⟩ <;> rw [he]

theorem windowHasFrames_iff (s : State) (w : Window) :
    windowHasFrames s w = true ↔ (s.stream w.stream).queue ≠ [] := by
  simp [windowHasFrames]

theorem closeWindow_eq_windowClosed (s : State) : closeWindow s = windowClosed s := by
  unfold closeWindow missedCheck windowClosed
  cases hw : s.engine.window with
  | none => rw [endWindow_eq_windowEnded]; unfold windowEnded; rw [hw]
  | some w =>
    dsimp only
    by_cases hmissed : w.phase = .opened ∧ (s.stream w.stream).queue ≠ []
    · rw [if_pos (by simpa [windowHasFrames_iff] using hmissed), if_pos hmissed, endWindow_report,
        endWindow_eq_windowEnded]
      rfl
    · rw [if_neg (by simpa [windowHasFrames_iff] using hmissed), if_neg hmissed, endWindow_eq_windowEnded]

/-- A close leaves the next-slot position. -/
theorem nextSlot_closeWindow (s : State) : (closeWindow s).engine.nextSlot = s.engine.nextSlot := by
  unfold closeWindow
  rcases endWindow_eq (missedCheck s) with ⟨-, he⟩ | ⟨w, -, he⟩ <;> rw [he, missedCheck_eq]

/-- A close moves neither the next-slot position nor the offset, and no slot's OPEN, so that the same take is due after
it. -/
theorem takeDue_closeWindow (s : State) : takeDue (closeWindow s) = takeDue s := by
  have hslots : (closeWindow s).plan.active.map ActiveSlot.slot = s.plan.active.map ActiveSlot.slot :=
    congrArg (fun v => v.2.1) (planView_closeWindow s)
  rw [← Bool.not_inj_iff, Bool.eq_iff_iff, Bool.not_eq_true', Bool.not_eq_true', takeDue_eq_false_iff,
    takeDue_eq_false_iff, hslots, nextSlot_closeWindow, closeWindow_eq]

/-! ### The release engine's event (R87) -/

theorem closeDue_of_window {s : State} {w : Window} (hw : s.engine.window = some w)
    (hclose : w.closeAt = s.timer.offset) : closeDue s = true := by
  unfold closeDue
  rw [hw]
  simpa using hclose

theorem takeDue_of_slot {s : State} {a : ActiveSlot} (ha : nextSlot? s = some a)
    (hopen : a.slot.openAt = s.timer.offset) : takeDue s = true := by
  unfold takeDue
  rw [ha]
  simpa using hopen

theorem finishEngine_of_close {s : State} (hclose : closeDue s = true) :
    finishEngine s = conclude s (if takeDue s then takeSlot (closeWindow s) else closeWindow s) := by
  unfold finishEngine engineEvent
  simp [hclose, takeDue_closeWindow]

theorem finishEngine_of_take {s : State} (hclose : closeDue s = false) (htake : takeDue s = true) :
    finishEngine s = conclude s (takeSlot s) := by
  simp [finishEngine, engineEvent, hclose, htake]

theorem exec_slotTake {s : State} (hrun : s.power = .running) (hdue : takeDue s = true) :
    exec .slotTake s = .next (finishEngine s) :=
  congrArg Host.Outcome.next (if_pos ⟨hrun, hdue⟩)

theorem exec_windowClose {s : State} (hrun : s.power = .running) (hdue : closeDue s = true) :
    exec .windowClose s = .next (finishEngine s) :=
  congrArg Host.Outcome.next (if_pos ⟨hrun, hdue⟩)

/-- Settles O23: with no close due the event is the take alone, and the next-slot position that moves invokes port D's
arbiter. -/
theorem slotTakenAtOpen : Obligations.SlotTakenAtOpen := by
  intro s a hrun ha hopen hnoClose
  have htake := takeDue_of_slot ha hopen
  have hclose : closeDue s = false := by
    rw [closeDue_eq_false_iff]
    cases hw : s.engine.window with
    | none => nofun
    | some w => simpa using hnoClose w hw
  rw [exec_slotTake hrun htake, finishEngine_of_take hclose htake, conclude_takeSlot ha, takeSlot_eq_slotTaken ha]

/-- Settles O24: a take that is due at the offset of the close is due before it and after it. -/
theorem windowClosesAtClose : Obligations.WindowClosesAtClose := by
  intro s w hrun hw hat
  have hclose := closeDue_of_window hw hat
  dsimp only
  rw [← closeWindow_eq_windowClosed]
  refine ⟨fun hnoTake => ?_, fun a ha hopen => ?_⟩
  · have htake : takeDue s = false := by
      unfold takeDue nextSlot?
      cases ha : s.plan.active[s.engine.nextSlot]? with
      | none => rfl
      | some a => simpa using hnoTake a ha
    rw [exec_windowClose hrun hclose, finishEngine_of_close hclose, htake]
    rfl
  · have hnext : nextSlot? (closeWindow s) = some a := by
      unfold nextSlot?
      rw [nextSlot_closeWindow]
      exact ha
    have htake : takeDue s = true := by
      rw [← takeDue_closeWindow]
      exact takeDue_of_slot hnext (by rw [closeWindow_eq]; exact hopen)
    rw [exec_windowClose hrun hclose, exec_slotTake hrun htake, finishEngine_of_close hclose, htake, if_pos rfl,
      takeSlot_eq_slotTaken hnext]
    exact ⟨rfl, rfl⟩

end Sys2Proof.Windows
end

section
/-! PROOF. The window that stands at a wrap: what counts MISSED, what comes before the close, and the settling of the
obligation on it (R44, R45, R73, R92, R94, R96). -/

namespace Sys2Proof.Windows

open Sys2Proof.Machine Sys2Proof.Safety Sys2Proof.Claims Sys2Proof.Link Sys2Proof.Invariants Sys2Proof.Wraps
  Sys2Proof.Cycles

/-! ### The MISSED count (R92) -/

/-- The MISSED count of entry `i` (R53). -/
def missedCount (i : StreamId) (s : State) : Count := (s.stream i).counters.missed

/-- A close of the window `w` counts MISSED: the window is OPEN, and its stream's queue `q` holds frames (R92). -/
def closeMisses (w : Window) (q : List Held) : Bool := decide (w.phase = .opened) && decide (q ≠ [])

theorem missedCount_of_streams {s t : State} (h : t.streams = s.streams) (i : StreamId) :
    missedCount i t = missedCount i s := congrArg (fun v : Vector Machine.Stream 32 => v[i].counters.missed) h

theorem streams_endWindow (s : State) : (endWindow s).streams = s.streams := by
  rcases endWindow_eq s with ⟨-, he⟩ | ⟨w, -, he⟩ <;> rw [he]

theorem closeWindow_of_no_window {s : State} (h : s.engine.window = none) : closeWindow s = s := by
  rw [closeWindow_eq_windowClosed]
  unfold windowClosed
  rw [h]

theorem missedCount_closeWindow {s : State} {w : Window} (hw : s.engine.window = some w) :
    missedCount w.stream (closeWindow s) =
      if closeMisses w (s.stream w.stream).queue then missedCount w.stream s + 1 else missedCount w.stream s := by
  have hmisses : (w.phase == .opened && windowHasFrames s w) = closeMisses w (s.stream w.stream).queue := by
    rw [Bool.eq_iff_iff]
    simp [closeMisses, windowHasFrames_iff]
  have hchecked : missedCount w.stream (closeWindow s) = missedCount w.stream (missedCheck s) :=
    missedCount_of_streams (streams_endWindow (missedCheck s)) w.stream
  rw [hchecked]
  unfold missedCheck
  simp only [hw, hmisses]
  split
  · unfold missedCount countStream
    rw [report_stream, setStream_stream_self]
  · rfl

theorem missed_agedEntry (x : Machine.Stream) : (agedEntry x).counters.missed = x.counters.missed := by
  unfold agedEntry
  split <;> rfl

theorem missedCount_ageStream (i j : StreamId) {reports : Nat → State → State}
    (h : ∀ n t, (reports n t).streams = t.streams) (s : State) :
    missedCount i (ageStream j reports s) = missedCount i s := by
  unfold missedCount
  rw [ageStream_stream j h]
  split
  · rename_i hj
    rw [missed_agedEntry, hj]
  · rfl

/-- Of the blocks' actions at a wrap the close alone counts MISSED. -/
theorem missedCount_wrapAct (i : StreamId) (before : State) (k : WrapPlan) {a : WrapAct} (ha : a ≠ .close) (s : State) :
    missedCount i (wrapAct before k a s) = missedCount i s := by
  cases a with
  | sync =>
    refine missedCount_of_streams ?_ i
    show (syncAct k s).streams = _
    unfold syncAct
    dsimp only
    rw [gateEnds_eq, reportSync_eq]
  | plan => exact missedCount_of_streams (by show (planAct k s).streams = _; rw [planAct_eq]) i
  | close => exact absurd rfl ha
  | age j => exact missedCount_ageStream i j (fun n t => by rw [reportTimes_eq]) s
  | notes => rfl
  | grantU =>
    refine missedCount_of_streams ?_ i
    show (decideU before s).streams = _
    rcases decideU_cases before s with ⟨-, he⟩ | ⟨-, he⟩ <;> rw [he]
    rw [arbiterU_eq]
  | ageAmid j n acts grants => exact missedCount_ageStream i j (streams_reportAmid j n before acts grants) s
  | unit => rfl

/-- Once no window stands, nothing at a wrap counts MISSED. -/
theorem missedCount_acted_of_no_window (i : StreamId) (before : State) (k : WrapPlan) (acts : List WrapAct) {s : State}
    (hw : s.engine.window = none) : missedCount i (acted before k acts s) = missedCount i s := by
  have hact : ∀ a, ∀ {t : State}, t.engine.window = none → missedCount i (wrapAct before k a t) = missedCount i t := by
    intro a t ht
    by_cases ha : a = .close
    · subst ha
      exact congrArg (missedCount i) (closeWindow_of_no_window ht)
    · exact missedCount_wrapAct i before k ha t
  have hboth := acted_keeps (I := fun t => t.engine.window = none ∧ missedCount i t = missedCount i s) (before := before)
    (k := k) (acts := acts) (fun a _ _ ht => ⟨window_wrapAct before k a ht.1, (hact a ht.1).trans ht.2⟩) ⟨hw, rfl⟩
  exact hboth.2

/-! ### What comes before the close (R45, R96) -/

/-- The close comes first: the window is as the wrap found it. -/
theorem missedCount_close_first {s : State} {w : Window} (hw : s.engine.window = some w) (before : State) (k : WrapPlan)
    (rest : List WrapAct) :
    missedCount w.stream (acted before k (.close :: rest) s) =
      if closeMisses w (s.stream w.stream).queue then missedCount w.stream s + 1 else missedCount w.stream s := by
  have hgone : (closeWindow s).engine.window = none := window_endWindow (missedCheck s)
  exact (missedCount_acted_of_no_window w.stream before k rest hgone).trans (missedCount_closeWindow hw)

/-- Where no hold stands, sync-closed alone shuts the gate (R73, R82). -/
theorem gateOpen_eq_not_syncClosed {s t : State} (h : gateOpen s = true) (hplan : t.plan = s.plan) :
    gateOpen t = !syncClosed t.sync := by
  unfold gateOpen at h ⊢
  rw [hplan, (Bool.and_eq_true_iff.1 h).1, Bool.true_and]

/-- The sync unit's action ends a standing window exactly where it presents sync-closed (R73, R96). -/
theorem syncAct_window (k : WrapPlan) {s : State} (hgate : gateOpen s = true) :
    (syncAct k s).streams = s.streams ∧
      (syncAct k s).engine.window = if syncClosed (syncAct k s).sync then none else s.engine.window := by
  obtain ⟨u, hu, he⟩ : ∃ u, (u.streams = s.streams ∧ u.engine = s.engine ∧ u.plan = s.plan) ∧
      syncAct k s = gateEnds s u := ⟨_, by rw [reportSync_eq]; exact ⟨rfl, rfl, rfl⟩, rfl⟩
  obtain ⟨hstreams, hengine, hplan⟩ := hu
  have hsync : (gateEnds s u).sync = u.sync := by rw [gateEnds_eq]
  have hgateU := gateOpen_eq_not_syncClosed hgate hplan
  rw [he, hsync]
  rcases gateEnds_cases s u with ⟨-, hshut, hends⟩ | ⟨hopen, hends⟩ <;> rw [hends]
  · rw [hshut] at hgateU
    rw [streams_endWindow, window_endWindow, if_pos (by simpa using hgateU)]
    exact ⟨hstreams, rfl⟩
  · rw [hopen.resolve_left (by simp [hgate])] at hgateU
    rw [hengine, if_neg (by simpa using hgateU)]
    exact ⟨hstreams, rfl⟩

/-- The sync unit acts first: the close finds the window unless sync-closed has shut the gate. -/
theorem missedCount_sync_first {s : State} {w : Window} (hgate : gateOpen s = true) (hw : s.engine.window = some w)
    (before : State) (k : WrapPlan) (rest : List WrapAct) :
    missedCount w.stream (acted before k (.sync :: .plan :: .close :: rest) s) =
      if !syncClosed (syncAct k s).sync && closeMisses w (s.stream w.stream).queue then missedCount w.stream s + 1
      else missedCount w.stream s := by
  obtain ⟨hstreams, hwindow⟩ := syncAct_window k hgate
  obtain ⟨u, hu, hplan⟩ : ∃ u, u = planAct k (syncAct k s) ∧
      u.streams = s.streams ∧ u.engine.window = (syncAct k s).engine.window := by
    refine ⟨_, rfl, ?_⟩
    rw [planAct_eq]
    exact ⟨hstreams, rfl⟩
  obtain ⟨hstreamsU, hwindowU⟩ := hplan
  have hcount : missedCount w.stream u = missedCount w.stream s := missedCount_of_streams hstreamsU _
  have hentry : u.stream w.stream = s.stream w.stream :=
    congrArg (fun v : Vector Machine.Stream 32 => v[w.stream]) hstreamsU
  have hacted : acted before k (.sync :: .plan :: .close :: rest) s = acted before k (.close :: rest) u := by
    rw [hu]; rfl
  rw [hacted, ← hcount, ← hentry]
  rw [hwindow] at hwindowU
  cases hshut : syncClosed (syncAct k s).sync with
  | true =>
    rw [hshut] at hwindowU
    exact missedCount_acted_of_no_window _ _ _ _ hwindowU
  | false =>
    rw [hshut] at hwindowU
    exact missedCount_close_first (hwindowU.trans hw) before k rest

/-! ### The three orders (R45) -/

theorem defaultOrder_sync_first : ∃ rest, fullOrder [] defaultOrder = .sync :: .plan :: .close :: rest := ⟨_, rfl⟩

theorem fullOrder_close_first : ∃ rest, fullOrder [.close] defaultOrder = .close :: rest := by
  unfold fullOrder
  rw [if_pos (by decide)]
  exact ⟨_, rfl⟩

theorem fullOrder_age_first (i : StreamId) :
    ∃ rest, fullOrder [.age i] defaultOrder = .age i :: .sync :: .plan :: .close :: rest := by
  have hnamed : (WrapAct.age i).blocks.all (· ∈ defaultOrder) = true := by simp [WrapAct.blocks, defaultOrder]
  unfold fullOrder
  rw [if_pos hnamed]
  simp [fullOrder, WrapAct.blocks, defaultOrder]

/-- After the blocks' actions nothing of the wrap counts MISSED: a take at OPEN 0 closes no window. -/
theorem missedCount_wrapEvent (i : StreamId) (order : List WrapAct) (s : State) :
    missedCount i (wrapEvent order s) =
      missedCount i (acted s (wrapPlan s) (fullOrder order defaultOrder) (beginCycle (wrapPlan s) s)) := by
  have hcycle : missedCount i (newCycle order s) =
      missedCount i (acted s (wrapPlan s) (fullOrder order defaultOrder) (beginCycle (wrapPlan s) s)) :=
    missedCount_of_streams (by rw [newCycle_eq, wrapBlocks_eq]) i
  rw [← hcycle]
  rcases wrapEvent_cases order s with he | ⟨-, he⟩ <;> rw [he]
  rcases conclude_takeSlot_cases (newCycle order s) with hs | ⟨-, j, h, q, -, -, hs, -⟩
  · exact missedCount_of_streams hs i
  · refine (missedCount_of_streams hs i).trans ?_
    unfold missedCount setQueue
    rw [setStream_stream]
    split
    · rename_i hj
      rw [hj]
    · rfl

section Orders

variable {s : State} {w : Window} (hw : s.engine.window = some w)
include hw

theorem missedCount_wrapEvent_close :
    missedCount w.stream (wrapEvent [.close] s) =
      if closeMisses w (s.stream w.stream).queue then missedCount w.stream s + 1 else missedCount w.stream s := by
  obtain ⟨rest, horder⟩ := fullOrder_close_first
  rw [missedCount_wrapEvent, horder]
  exact missedCount_close_first (s := beginCycle (wrapPlan s) s) hw s _ rest

/-- The sync unit's action in the wrap is the one whose result stands after it. -/
theorem missedCount_wrapEvent_default (hgate : gateOpen s = true) :
    missedCount w.stream (wrapEvent [] s) =
      if !syncClosed (wrapEvent [] s).sync && closeMisses w (s.stream w.stream).queue then missedCount w.stream s + 1
      else missedCount w.stream s := by
  obtain ⟨rest, horder⟩ := defaultOrder_sync_first
  have hcount := missedCount_sync_first (s := beginCycle (wrapPlan s) s) hgate hw s (wrapPlan s) rest
  rw [sync_syncAct] at hcount
  rw [missedCount_wrapEvent, horder, sync_wrapEvent]
  exact hcount

theorem missedCount_wrapEvent_age (hgate : gateOpen s = true) :
    missedCount w.stream (wrapEvent [.age w.stream] s) =
      if !syncClosed (wrapEvent [.age w.stream] s).sync && closeMisses w (agedEntry (s.stream w.stream)).queue then
        missedCount w.stream s + 1
      else missedCount w.stream s := by
  obtain ⟨rest, horder⟩ := fullOrder_age_first w.stream
  obtain ⟨u, hu⟩ : ∃ u, u = wrapAct s (wrapPlan s) (.age w.stream) (beginCycle (wrapPlan s) s) := ⟨_, rfl⟩
  have hframe : u.engine.window = some w ∧ u.sync = s.sync ∧ gateOpen u = true := by
    rw [hu]
    show (ageStream w.stream _ _).engine.window = _ ∧ (ageStream w.stream _ _).sync = _ ∧
      gateOpen (ageStream w.stream _ _) = _
    rw [ageStream_frame w.stream fun n t => onlyNotesAndUplink_reportTimes n _ t]
    exact ⟨hw, rfl, hgate⟩
  obtain ⟨hwindow, hsync, hgateU⟩ := hframe
  have hentry : u.stream w.stream = agedEntry (s.stream w.stream) := by
    rw [hu]
    exact wrapAct_stream_of_ages List.mem_cons_self s (wrapPlan s) (beginCycle (wrapPlan s) s)
  have hstill : missedCount w.stream u = missedCount w.stream s := by
    rw [hu]
    exact missedCount_wrapAct _ _ _ (by simp) (beginCycle (wrapPlan s) s)
  have hcount := missedCount_sync_first hgateU hwindow s (wrapPlan s) rest
  rw [sync_syncAct, hsync, hentry, hstill, hu] at hcount
  rw [missedCount_wrapEvent, horder, sync_wrapEvent]
  exact hcount

end Orders

theorem closedBySync_eq (s : State) : closedBySync s = syncClosed s.sync := by
  rw [Bool.eq_iff_iff]
  simp [closedBySync, syncClosed]

theorem agedEntry_queue (x : Machine.Stream) : (agedEntry x).queue = if x.valid then agedQueue x else x.queue := by
  unfold agedEntry
  split <;> rfl

/-- Settles O34: only the close counts MISSED, so that what the order puts before it decides; the sync unit may have ended
the window, and the ageing may have emptied its queue. -/
theorem windowEndsAtWrap : Obligations.WindowEndsAtWrap := by
  intro s w order hat hw hgate
  have hreach := reachWrap_of_atWrap hat
  have hwindow : (reachWrap s).engine.window = some w := by rw [hreach]; exact hw
  have hgateR : gateOpen (reachWrap s) = true := by rw [hreach]; exact hgate
  have hentry : (reachWrap s).stream w.stream = s.stream w.stream := by rw [hreach]; rfl
  have hcount : missedCount w.stream (reachWrap s) = missedCount w.stream s := congrArg (·.counters.missed) hentry
  intro x horder
  refine ⟨_, exec_wrap_of_atWrap hat, fun hzero => ?_, ?_⟩
  · obtain ⟨-, ⟨hnone, hlow⟩, -⟩ := (wrapEvent_firstSlot order (reachWrap s)).1 hzero
    exact ⟨hnone, hlow (by simp [hwindow])⟩
  · show missedCount w.stream (wrapEvent order (reachWrap s)) = _
    rw [closedBySync_eq]
    rcases horder with rfl | rfl | rfl
    · rw [missedCount_wrapEvent_default hwindow hgateR, hentry, hcount, closeMisses, Bool.and_left_comm]
      rfl
    · rw [missedCount_wrapEvent_close hwindow, hentry, hcount]
      rfl
    · rw [missedCount_wrapEvent_age hwindow hgateR, hentry, hcount, agedEntry_queue, closeMisses,
        Bool.and_left_comm]
      rfl

end Sys2Proof.Windows
end

section
/-! PROOF. Plan control at a wrap: its own action on the plan, the SPENT mark of the window that ends, the copy of the staged
plan, and the settling of the obligation on it (R92, R94, R96, R112, R116, R117, R124, R125). -/

namespace Sys2Proof.Plans

open Sys2Proof.Machine Sys2Proof.Safety Sys2Proof.Claims Sys2Proof.Link Sys2Proof.Invariants Sys2Proof.Wraps
  Sys2Proof.Cycles Sys2Proof.Requests

/-! ### Plan control's own action (R116, R117, R124, R125) -/

/-- Plan control after a hold has expired (R124). -/
def expiredPlan (p : Plan) : Plan :=
  { p with
    mode := p.mode.withHold false
    holdLimit := 0
    holdCount := 0
    resumeGuard := 0
    counters := { p.counters with holdExpiries := p.counters.holdExpiries + 1 } }

/-- Plan control after a switch, before the staged plan is copied (R117). -/
def switchedPlan (p : Plan) : Plan :=
  { p with
    mode := .steady
    target := .none
    counters := { p.counters with switchesDone := p.counters.switchesDone + 1 } }

/-- Plan control after its own action at a wrap, `switches` telling that a pending switch is met. -/
def plannedAt (switches : Bool) (p : Plan) : Plan :=
  if holdExpires p then expiredPlan p
  else if switches then switchedPlan (countGuard (countHold p))
  else countGuard (countHold p)

theorem planAct_plan (k : WrapPlan) (s : State) : (planAct k s).plan = plannedAt k.switches s.plan := by
  unfold planAct plannedAt
  split
  · unfold expireHold
    rw [report_eq]
    rfl
  · dsimp only
    split
    · unfold takeSwitch
      rw [report_eq]
      rfl
    · rfl

theorem countHold_withActive (p : Plan) (l : List ActiveSlot) :
    countHold { p with active := l } = { countHold p with active := l } := by
  unfold countHold
  dsimp only
  split <;> rfl

/-- Plan control's action neither reads nor changes the active slots. -/
theorem plannedAt_withActive (switches : Bool) (p : Plan) (l : List ActiveSlot) :
    plannedAt switches { p with active := l } = { plannedAt switches p with active := l } := by
  have hcount : countGuard (countHold { p with active := l }) = { countGuard (countHold p) with active := l } := by
    rw [countHold_withActive]; rfl
  have hexpires : holdExpires { p with active := l } = holdExpires p := rfl
  unfold plannedAt
  rw [hcount, hexpires]
  cases holdExpires p <;> cases switches <;> rfl

theorem plannedAt_active (switches : Bool) (p : Plan) : (plannedAt switches p).active = p.active := by
  have h : plannedAt switches p = { plannedAt switches p with active := p.active } :=
    plannedAt_withActive switches p p.active
  rw [h]

/-! ### The other blocks' actions (R92, R96) -/

/-- Plan control without its active slots. -/
def planRest (p : Plan) : Plan := { p with active := [] }

/-- Plan control beside the active slots, and these once the standing window has ended. -/
def closingView (s : State) := (planRest s.plan, activeAfterClose s)

theorem closingView_endWindow (s : State) : closingView (endWindow s) = closingView s := by
  rcases endWindow_eq s with ⟨-, he⟩ | ⟨w, hw, he⟩ <;> rw [he]
  unfold closingView activeAfterClose spendSlot
  rw [hw]
  dsimp only
  rw [modify_eq_spentAt]
  cases w.once <;> rfl

/-- No block but plan control changes the plan at a wrap, but for the SPENT mark of the window that ends. -/
theorem closingView_wrapAct (before : State) (k : WrapPlan) {a : WrapAct} (ha : .plan ∉ a.blocks) (s : State) :
    closingView (wrapAct before k a s) = closingView s := by
  cases a with
  | sync =>
    show closingView (gateEnds s _) = _
    rcases gateEnds_cases s (reportSync s.sync.mode { s with sync := syncAfterWrap s.sync k.ending k.evaluation k.length })
      with ⟨-, -, he⟩ | ⟨-, he⟩ <;> rw [he]
    · rw [closingView_endWindow, reportSync_eq]; rfl
    · rw [reportSync_eq]; rfl
  | plan => exact absurd List.mem_cons_self ha
  | close =>
    show closingView (endWindow (missedCheck s)) = _
    rw [closingView_endWindow, missedCheck_eq]
    rfl
  | age i =>
    show closingView (ageStream i _ s) = _
    rw [ageStream_frame i fun n t => onlyNotesAndUplink_reportTimes n _ t]
    rfl
  | notes => rfl
  | grantU =>
    show closingView (decideU before s) = _
    rcases decideU_cases before s with ⟨-, he⟩ | ⟨-, he⟩ <;> rw [he]
    rw [arbiterU_eq]
    rfl
  | ageAmid i n acts grants =>
    show closingView (ageStream i _ s) = _
    rw [ageStream_frame i (onlyNotesAndUplink_reportAmid i n before acts grants)]
    rfl
  | unit => rfl

/-- Plan control's action in that view: its own part acts, and the active slots are left. -/
theorem closingView_planAct (k : WrapPlan) (s : State) :
    closingView (planAct k s) = (plannedAt k.switches (planRest s.plan), activeAfterClose s) := by
  have hwindow : (planAct k s).engine.window = s.engine.window := by rw [planAct_eq]
  unfold closingView activeAfterClose
  rw [hwindow, planAct_plan, plannedAt_active]
  exact congrArg (·, _) (plannedAt_withActive k.switches s.plan []).symm

/-- The blocks' actions together: plan control acts once, whatever the order, and no window is left (R56, R94). -/
theorem plan_acted (order : List WrapAct) (s : State) :
    (acted s (wrapPlan s) (fullOrder order defaultOrder) (beginCycle (wrapPlan s) s)).plan =
      { plannedAt (wrapPlan s).switches s.plan with active := activeAfterClose s } := by
  obtain ⟨pre, a, post, hsplit, ha, hpre, hpost⟩ := fullOrder_split order (b := .plan) (by decide)
  obtain rfl := mem_blocks_plan ha
  have hwindow : (acted s (wrapPlan s) (fullOrder order defaultOrder) (beginCycle (wrapPlan s) s)).engine.window =
      none := by
    have h := window_wrapBlocks order s
    rwa [wrapBlocks_eq] at h
  have hkeeps : ∀ {acts : List WrapAct}, (∀ x ∈ acts, .plan ∉ x.blocks) → ∀ t : State,
      closingView (acted s (wrapPlan s) acts t) = closingView t := fun h t =>
    acted_keeps (I := fun u => closingView u = closingView t)
      (fun x hx u hu => (closingView_wrapAct s _ (h x hx) u).trans hu) rfl
  have hbefore := hkeeps hpre (beginCycle (wrapPlan s) s)
  have hview : closingView (acted s (wrapPlan s) (fullOrder order defaultOrder) (beginCycle (wrapPlan s) s)) =
      (plannedAt (wrapPlan s).switches (planRest s.plan), activeAfterClose s) := by
    rw [hsplit, acted_append, hkeeps hpost]
    refine (closingView_planAct _ _).trans ?_
    simp only [closingView, Prod.mk.injEq] at hbefore
    rw [hbefore.1, hbefore.2]
    rfl
  generalize acted s (wrapPlan s) (fullOrder order defaultOrder) (beginCycle (wrapPlan s) s) = t at hwindow hview ⊢
  simp only [closingView, activeAfterClose, hwindow, Prod.mk.injEq] at hview
  obtain ⟨hrest, hactive⟩ := hview
  calc t.plan = { planRest t.plan with active := t.plan.active } := rfl
    _ = { plannedAt (wrapPlan s).switches s.plan with active := activeAfterClose s } := by
      rw [hrest, hactive]
      exact (congrArg (fun p : Plan => { p with active := activeAfterClose s })
        (plannedAt_withActive (wrapPlan s).switches s.plan [])).trans rfl

/-! ### The plan after a wrap -/

/-- Plan control as a wrap leaves it, before a slot at OPEN 0 is taken. -/
def planAfterWrap (s : State) (switches : Bool) : Plan :=
  let p := plannedAt switches s.plan
  if switches then
    { p with active := p.staged.map fun x => { slot := x, spent := false }, activeL := p.stagedL }
  else { p with active := activeAfterClose s }

theorem copyPlan_plan (k : WrapPlan) (s : State) :
    (copyPlan k s).plan =
      if k.switches then
        { s.plan with
          active := s.plan.staged.map fun x => { slot := x, spent := false }
          activeL := s.plan.stagedL }
      else s.plan := by
  unfold copyPlan
  split <;> rfl

theorem plan_wrapBlocks (order : List WrapAct) (s : State) :
    (wrapBlocks order s).plan = planAfterWrap s (wrapPlan s).switches := by
  have hcopy : (wrapBlocks order s).plan = (copyPlan (wrapPlan s)
      (acted s (wrapPlan s) (fullOrder order defaultOrder) (beginCycle (wrapPlan s) s))).plan := rfl
  rw [hcopy, copyPlan_plan, plan_acted]
  rfl

/-- The plan with the window counts of `c`. -/
def withWindowCounts (c : PlanCounters) (p : Plan) : Plan :=
  { p with
    counters := { p.counters with windowsOpened := c.windowsOpened, windowsSkipped := c.windowsSkipped } }

/-- The take of a slot changes plan control in the window counts alone (R85, R86). -/
theorem takeSlot_plan (s : State) : (takeSlot s).plan = withWindowCounts (takeSlot s).plan.counters s.plan := by
  cases ha : nextSlot? s with
  | none => unfold takeSlot; rw [ha]; rfl
  | some a =>
    rcases slotTaking_cases s a with he | ⟨he, hshut⟩ | ⟨he, hgate, hbarred⟩
    · rw [takeSlot_passedOver ha he]; rfl
    · rw [takeSlot_skipped ha he hshut]; rfl
    · obtain ⟨r, htake⟩ := takeSlot_opened ha he hgate hbarred
      rw [htake]
      rfl

theorem plan_newCycle (order : List WrapAct) (s : State) :
    (newCycle order s).plan = planAfterWrap s (wrapPlan s).switches := by
  rw [newCycle_eq]
  exact plan_wrapBlocks order s

theorem plan_wrapEvent (order : List WrapAct) (s : State) :
    (wrapEvent order s).plan =
      withWindowCounts (wrapEvent order s).plan.counters (planAfterWrap s (wrapPlan s).switches) := by
  rw [← plan_newCycle order s]
  rcases wrapEvent_cases order s with he | ⟨-, he⟩ <;> rw [he]
  · rfl
  · rw [(win_conclude _ _).2]
    exact takeSlot_plan _

/-! ### The three outcomes (R116, R124, R125) -/

theorem holding_eq (p : Plan) : holding p = p.mode.holds := by
  unfold holding
  cases p.mode <;> rfl

theorem expiresNext_iff (s : State) : ExpiresNext s ↔ holdExpires s.plan = true := by
  simp [ExpiresNext, holdExpires, holding_eq, and_assoc]

theorem pending_of_switchesInto {s : State} {n : Cycle} (h : switchesInto s n = true) : s.plan.mode = .pending := by
  unfold switchesInto at h
  exact of_decide_eq_true (Bool.and_eq_true_iff.1 h).1

/-- No switch takes effect while a hold stands (R116). -/
theorem switchesInto_of_expires {s : State} (h : holdExpires s.plan = true) (n : Cycle) : switchesInto s n = false := by
  cases hsw : switchesInto s n with
  | false => rfl
  | true =>
    unfold holdExpires at h
    rw [pending_of_switchesInto hsw] at h
    cases h

theorem planAfterWrap_of_expires {s : State} (h : holdExpires s.plan = true) :
    planAfterWrap s false =
      { s.plan with
        active := activeAfterClose s
        mode := if s.plan.mode = .held then .steady else .pending
        holdLimit := 0
        holdCount := 0
        resumeGuard := 0
        counters := { s.plan.counters with holdExpiries := s.plan.counters.holdExpiries + 1 } } := by
  have hmode : s.plan.mode.withHold false = if s.plan.mode = .held then .steady else .pending := by
    unfold holdExpires at h
    cases hm : s.plan.mode with
    | held => rfl
    | heldPending => rfl
    | _ => rw [hm] at h; cases h
  unfold planAfterWrap plannedAt
  rw [if_pos h, ← hmode]
  rfl

theorem guard_counted (n : Nat) : min Config.resumeGuardFull (n + 1) = if n < 2 then n + 1 else 2 := by
  show min 2 (n + 1) = _
  split <;> omega

theorem countHold_eq (p : Plan) :
    countHold p =
      { p with holdCount := if holding p = true ∧ p.holdLimit ≠ 0 then p.holdCount + 1 else p.holdCount } := by
  have hiff : (p.mode.holds && p.holdLimit != 0) = true ↔ holding p = true ∧ p.holdLimit ≠ 0 := by
    simp [holding_eq]
  unfold countHold
  by_cases h : holding p = true ∧ p.holdLimit ≠ 0
  · rw [if_pos (hiff.2 h), if_pos h]
  · rw [if_neg (mt hiff.1 h), if_neg h]

theorem planAfterWrap_of_counts {s : State} (h : ¬ holdExpires s.plan = true) :
    planAfterWrap s false =
      { s.plan with
        active := activeAfterClose s
        holdCount :=
          if holding s.plan = true ∧ s.plan.holdLimit ≠ 0 then s.plan.holdCount + 1 else s.plan.holdCount
        resumeGuard := if s.plan.resumeGuard < 2 then s.plan.resumeGuard + 1 else 2 } := by
  unfold planAfterWrap plannedAt
  rw [if_neg h, countHold_eq, ← guard_counted]
  rfl

theorem planAfterWrap_of_switches {s : State} (hmode : s.plan.mode = .pending) :
    planAfterWrap s true =
      { s.plan with
        active := s.plan.staged.map fun x => { slot := x, spent := false }
        activeL := s.plan.stagedL
        mode := .steady
        target := .none
        resumeGuard := if s.plan.resumeGuard < 2 then s.plan.resumeGuard + 1 else 2
        counters := { s.plan.counters with switchesDone := s.plan.counters.switchesDone + 1 } } := by
  have hholds : s.plan.mode.holds = false := by rw [hmode]; rfl
  have hexpires : ¬ holdExpires s.plan = true := by simp [holdExpires, hholds]
  have hcount : countHold s.plan = s.plan := by simp [countHold, hholds]
  unfold planAfterWrap plannedAt
  rw [if_neg hexpires, hcount, ← guard_counted]
  rfl

/-- HOLD_EXPIRY is the wrap at which the hold count reaches its limit (R124). -/
theorem exec_holdExpiry_of_atWrap {s : State} {order : List WrapAct} (h : AtWrap s order) (he : ExpiresNext s) :
    exec (.holdExpiry order) s = .next (wrapEvent order (reachWrap s)) := by
  refine congrArg Host.Outcome.next (wrapWhen_of_atWrap h (cond := holdExpiryMet) ?_)
  rw [reachWrap_of_atWrap h]
  exact (expiresNext_iff s).1 he

/-- Settles O33: plan control acts once at a wrap on what the plan held before it, whatever the order of the blocks. -/
theorem planActsAtWrap : Obligations.PlanActsAtWrap := by
  intro s order c h hc
  have hcycle : (wrapEvent order (reachWrap s)).timer.cycle = (wrapPlan s).number := by
    rw [timer_wrapEvent, wrapPlan_reachWrap h]
  have hafter : planAfterWrap (reachWrap s) = planAfterWrap s := by rw [reachWrap_of_atWrap h]; rfl
  have hplan := plan_wrapEvent order (reachWrap s)
  rw [wrapPlan_reachWrap h, switches_eq, ← hcycle, hafter] at hplan
  refine ⟨wrapEvent order (reachWrap s), ?_, fun he => ?_, fun he hsw => ?_, fun he hsw => ?_⟩
  · rcases hc with rfl | ⟨rfl, he⟩
    · exact exec_wrap_of_atWrap h
    · exact exec_holdExpiry_of_atWrap h he
  · rw [expiresNext_iff] at he
    rw [switchesInto_of_expires he, planAfterWrap_of_expires he] at hplan
    exact hplan
  · rw [hsw, planAfterWrap_of_switches (pending_of_switchesInto hsw)] at hplan
    exact hplan
  · rw [expiresNext_iff] at he
    rw [hsw, planAfterWrap_of_counts he] at hplan
    exact hplan

end Sys2Proof.Plans
end

section
/-! PROOF. The laws of the two plans and of plan control as invariants of the running part, and the settling of the obligation
on them (R47, R104, R105, R112, R114, R117, R124, R125). -/

namespace Sys2Proof.Plans

open Sys2Proof.Machine Sys2Proof.Safety Sys2Proof.Claims Sys2Proof.Link Sys2Proof.Invariants Sys2Proof.Wraps
  Sys2Proof.Cycles Sys2Proof.Requests

/-! ### What the laws depend on -/

/-- Plan control's state, target, hold and guard (R112). -/
def controlView (s : State) :=
  (s.plan.mode, s.plan.target, s.plan.holdLimit, s.plan.holdCount, s.plan.resumeGuard)

theorem controlView_of_plan {s t : State} (h : t.plan = s.plan) : controlView t = controlView s := by
  unfold controlView; rw [h]

theorem planCoherent_of_control {s t : State} (h : PlanCoherent s) (hv : controlView t = controlView s) :
    PlanCoherent t := by
  simp only [controlView, Prod.mk.injEq] at hv
  obtain ⟨hmode, htarget, hlimit, hcount, hguard⟩ := hv
  obtain ⟨target, hold, holdCount, guard⟩ := h
  rw [← hmode] at target hold
  rw [← htarget] at target
  rw [← hlimit] at hold holdCount
  rw [← hcount] at hold holdCount
  rw [← hguard] at guard
  exact ⟨target, hold, holdCount, guard⟩

/-- A valid entry must be named by an active slot, or by a staged one while a switch is pending: what STREAM_DELETE asks
of an entry (R47). -/
theorem namedValid_iff (s : State) :
    NamedValid s ↔ ∀ i, streamInUse i s.plan = true → (s.stream i).valid = true := by
  simp only [streamInUse_iff, pendingSwitch_eq]
  constructor
  · rintro ⟨active, staged⟩ i (⟨a, ha, rfl⟩ | ⟨hsw, x, hx, rfl⟩)
    · exact active a ha
    · exact staged hsw x hx
  · intro h
    exact ⟨fun a ha => h _ (.inl ⟨a, ha, rfl⟩), fun hsw x hx => h _ (.inr ⟨hsw, x, hx, rfl⟩)⟩

/-- No slot comes to name an entry, and the named entries stay valid. -/
theorem namedValid_of_use {s t : State} (h : NamedValid s)
    (huse : ∀ i, streamInUse i t.plan = true → streamInUse i s.plan = true)
    (hvalid : ∀ i, streamInUse i s.plan = true → (s.stream i).valid = true → (t.stream i).valid = true) :
    NamedValid t := by
  rw [namedValid_iff] at h ⊢
  exact fun i hi => hvalid i (huse i hi) (h i (huse i hi))

/-- The entries in use are told by the slots of the active plan, and by the staged ones while a switch is pending. -/
theorem streamInUse_of_slots {p q : Plan} (hactive : q.active.map ActiveSlot.slot = p.active.map ActiveSlot.slot)
    (hstaged : q.mode.switching = true → p.mode.switching = true ∧ q.staged = p.staged) (i : StreamId)
    (h : streamInUse i q = true) : streamInUse i p = true := by
  rw [streamInUse_iff, pendingSwitch_eq] at h ⊢
  rcases h with ⟨a, ha, rfl⟩ | ⟨hsw, hx⟩
  · have hslot : a.slot ∈ p.active.map ActiveSlot.slot := hactive ▸ List.mem_map_of_mem ha
    obtain ⟨b, hb, he⟩ := List.mem_map.1 hslot
    exact .inl ⟨b, hb, congrArg Slot.stream he⟩
  · obtain ⟨hswitching, hsame⟩ := hstaged hsw
    exact .inr ⟨hswitching, hsame ▸ hx⟩

theorem valid_of_config {s t : State} (h : configView t = configView s) (i : StreamId) :
    (t.stream i).valid = (s.stream i).valid :=
  (congrArg Stream.valid (congrFun h i) :)

/-- The naming holds where neither the slots, nor plan control, nor the configurations of the entries have changed. -/
theorem namedValid_of_views {s t : State} (h : NamedValid s) (hplan : planView t = planView s)
    (hcontrol : controlView t = controlView s) (hconfig : configView t = configView s) : NamedValid t := by
  have hmode : t.plan.mode = s.plan.mode := congrArg Prod.fst hcontrol
  simp only [planView, Prod.mk.injEq] at hplan
  obtain ⟨hstaged, hactive, -, -⟩ := hplan
  refine namedValid_of_use h (fun i => ?_) (fun i _ hv => (valid_of_config hconfig i).trans hv)
  exact streamInUse_of_slots hactive (fun hsw => ⟨hmode ▸ hsw, hstaged⟩) i

/-- The laws hold where neither the slots, nor plan control, nor the configurations of the entries have changed. -/
theorem planLaws_of_views {s t : State} (h : PlanLaws s) (hplan : planView t = planView s)
    (hcontrol : controlView t = controlView s) (hconfig : configView t = configView s) : PlanLaws t := by
  obtain ⟨plans, named, coherent⟩ := h
  exact ⟨plansOrdered_of_view plans hplan, namedValid_of_views named hplan hcontrol hconfig,
    planCoherent_of_control coherent hcontrol⟩

/-- The empty plan of a restart and of power-on (R126). -/
theorem planLaws_initial {s : State} (h : s.plan = {}) : PlanLaws s := by
  refine ⟨plansOrdered_initial h, ⟨fun a ha => ?_, fun hsw => ?_⟩, ?_⟩
  · rw [h] at ha; cases ha
  · rw [h] at hsw; cases hsw
  · constructor <;> rw [h] <;> decide

/-! ### What leaves plan control as it is -/

theorem controlView_endWindow (s : State) : controlView (endWindow s) = controlView s := by
  rcases endWindow_eq s with ⟨-, he⟩ | ⟨w, -, he⟩ <;> rw [he]
  unfold controlView
  cases w.once <;> rfl

theorem controlView_gateEnds (before after : State) : controlView (gateEnds before after) = controlView after := by
  rcases gateEnds_cases before after with ⟨-, -, he⟩ | ⟨-, he⟩ <;> rw [he]
  exact controlView_endWindow after

theorem controlView_closeWindow (s : State) : controlView (closeWindow s) = controlView s := by
  refine (controlView_endWindow _).trans ?_
  rw [missedCheck_eq]
  rfl

theorem controlView_takeSlot (s : State) : controlView (takeSlot s) = controlView s := by
  unfold controlView
  rw [takeSlot_plan]
  rfl

theorem controlView_purgeQueue (i : StreamId) (s : State) : controlView (purgeQueue i s) = controlView s := by
  rw [purgeQueue_eq]; rfl

theorem controlView_deleteStream (i : StreamId) (s : State) : controlView (deleteStream i s) = controlView s := by
  rw [deleteStream_eq, emptied_eq]; rfl

theorem controlView_zeroGroup (g : Group) (s : State) : controlView (zeroGroup g s) = controlView s := by
  cases g with
  | port p => cases p <;> rfl
  | _ => rfl

/-- Nothing on a line changes the plan. -/
theorem plan_lines (p : Plan) : KeptOnLines fun s => s.plan = p where
  port q x hs := by cases q <;> exact hs
  report o hs := by rw [report_eq]; exact hs
  buffers _ _ _ hs := hs
  counters _ hs := hs
  pass _ hs := by unfold passAppend; split <;> exact hs
  back _ hs := by unfold backAppend; split <;> exact hs
  admission _ _ hs := by rw [admitFrame_eq]; exact hs
  mark hs := by rw [deliverMark_frame]; exact hs
  offer hs := by rw [offerRequest_frame]; exact hs

/-! ### Slots that name a valid entry (R46 to R52, R105 to R122) -/

theorem writtenStream_valid (x : Stream) (w : StreamWriteArgs) : (writtenStream x w).valid = true := by
  unfold writtenStream
  split
  · assumption
  · rfl

/-- A change of one entry, valid afterwards if it is in use. -/
theorem namedValid_setStream {s : State} (h : NamedValid s) {i : StreamId} {x : Stream}
    (hx : streamInUse i s.plan = true → (s.stream i).valid = true → x.valid = true) : NamedValid (setStream i x s) := by
  refine namedValid_of_use h (fun _ hi => hi) fun j hj hv => ?_
  rw [setStream_stream]
  split
  · rename_i hij
    subst hij
    exact hx hj hv
  · exact hv

/-- While no switch is pending, any slots may be staged (R104). -/
theorem namedValid_setStaged {s : State} (h : NamedValid s) (idle : s.plan.mode.switching = false) (slots : List Slot)
    (l : Nat) : NamedValid (setStaged slots l s) :=
  ⟨h.active, fun hsw => absurd (idle.symm.trans hsw) Bool.false_ne_true⟩

/-- A staged plan that SWITCH has verified names valid entries (R114). -/
theorem valid_of_verified {s : State} (h : verifyPlan s = none) {x : Slot} (hx : x ∈ s.plan.staged) :
    (s.stream x.stream).valid = true := by
  have hnone := List.findSome?_eq_none_iff.1 h x hx
  cases hv : (s.stream x.stream).valid with
  | true => rfl
  | false => simp [slotFault, hv] at hnone

theorem switching_withHold (m : PlanMode) (b : Bool) : (m.withHold b).switching = m.switching := by
  cases m <;> cases b <;> rfl

theorem switching_withSwitch (m : PlanMode) (b : Bool) : (m.withSwitch b).switching = b := by
  cases m <;> cases b <;> rfl

theorem namedValid_gateEnds (before : State) {after : State} (h : NamedValid after) :
    NamedValid (gateEnds before after) :=
  namedValid_of_views h (planView_gateEnds before after) (controlView_gateEnds before after) (by rw [gateEnds_eq]; rfl)

theorem namedValid_deleteStream {s : State} (h : NamedValid s) {i : StreamId} (unused : streamInUse i s.plan = false) :
    NamedValid (deleteStream i s) := by
  have hset := namedValid_setStream (x := { s.stream i with valid := false, queue := [], counters := {} }) h
    fun hi => absurd (unused.symm.trans hi) Bool.false_ne_true
  rw [deleteStream_eq, emptied_eq]
  exact ⟨hset.active, hset.staged⟩

theorem namedValid_effect {s t : State} (h : NamedValid s) (he : Effect s t) : NamedValid t := by
  cases he with
  | writeStream => exact namedValid_setStream h fun _ _ => writtenStream_valid _ _
  | deleteStream _ unused => exact namedValid_deleteStream h unused
  | lockStream valid => exact namedValid_setStream h fun _ hv => hv
  | purge =>
    exact namedValid_of_views h (by rw [purgeQueue_eq]; rfl) (controlView_purgeQueue _ s) (configView_purgeQueue _ s)
  | addSlot _ idle => exact namedValid_setStaged h idle _ _
  | dropSlot idle => exact namedValid_setStaged h idle _ _
  | emptyStaged idle => exact namedValid_setStaged h idle _ _
  | stageActive idle => exact namedValid_setStaged h idle _ _
  | stageLength idle => exact namedValid_setStaged h idle _ _
  | switch _ _ verified => exact ⟨h.active, fun _ _ hx => valid_of_verified verified hx⟩
  | withdraw =>
    exact ⟨h.active, fun hsw => absurd ((switching_withSwitch _ _).symm.trans hsw) Bool.false_ne_true⟩
  | hold limit =>
    exact namedValid_gateEnds s ⟨h.active, fun hsw => h.staged ((switching_withHold _ _).symm.trans hsw)⟩
  | resume => exact ⟨h.active, fun hsw => h.staged ((switching_withHold _ _).symm.trans hsw)⟩
  | configureSync =>
    rw [reportSync_eq]
    exact namedValid_gateEnds s ⟨h.active, h.staged⟩
  | zero g =>
    cases g with
    | port p => cases p <;> exact ⟨h.active, h.staged⟩
    | stream i => exact namedValid_setStream h fun _ hv => hv
    | _ => exact ⟨h.active, h.staged⟩
  | _ => exact ⟨h.active, h.staged⟩

/-! ### Plan control, coherent (R112, R113, R120 to R125) -/

/-- HOLD: the limit it carries stands, with a count of 0 (R121). -/
theorem planCoherent_beginHold {s : State} (h : PlanCoherent s) (limit : Nat) : PlanCoherent (beginHold limit s) := by
  refine planCoherent_of_control (s := { s with plan := { s.plan with
    mode := s.plan.mode.withHold true, holdLimit := limit, holdCount := 0 } }) ?_ (controlView_gateEnds s _)
  refine ⟨h.target.trans ?_, fun hfree => ?_, ?_, h.guard⟩
  · rw [switching_withHold]
  · exact absurd ((holds_withHold _ _).symm.trans hfree) (by decide)
  · exact (Nat.eq_zero_or_pos limit).imp (fun h0 => ⟨h0, rfl⟩) id

theorem planCoherent_effect {s t : State} (h : PlanCoherent s) (he : Effect s t) : PlanCoherent t := by
  cases he with
  | deleteStream => exact planCoherent_of_control h (controlView_deleteStream _ s)
  | purge => exact planCoherent_of_control h (controlView_purgeQueue _ s)
  | switch target steady =>
    have hfree := h.hold (by rw [steady]; rfl)
    exact ⟨⟨fun ht => absurd ht target, fun hsw => (by cases hsw)⟩, fun _ => hfree, h.holdCount, h.guard⟩
  | withdraw =>
    refine ⟨⟨fun _ => switching_withSwitch _ _, fun _ => rfl⟩, fun hfree => h.hold ?_, h.holdCount, h.guard⟩
    exact (holds_withSwitch _ _).symm.trans hfree
  | hold limit => exact planCoherent_beginHold h limit
  | resume =>
    exact ⟨h.target.trans (by rw [← switching_withHold s.plan.mode false]; rfl), fun _ => ⟨rfl, rfl⟩, .inl ⟨rfl, rfl⟩,
      Nat.zero_le 2⟩
  | configureSync =>
    rw [reportSync_eq]
    exact planCoherent_of_control h (controlView_gateEnds s _)
  | zero g => exact planCoherent_of_control h (controlView_zeroGroup g s)
  | _ => exact planCoherent_of_control h rfl

/-! ### The events and the wrap -/

theorem planLaws_effect {s t : State} (h : PlanLaws s) (he : Effect s t) : PlanLaws t := by
  obtain ⟨plans, named, coherent⟩ := h
  exact ⟨plansOrdered_effect plans he, namedValid_effect named he, planCoherent_effect coherent he⟩

theorem planLaws_completeU {s : State} (h : PlanLaws s) (t : Transmission SourceU) : PlanLaws (completeU t s) := by
  rcases completeU_cases t s with ⟨x, -, he⟩ | ⟨-, he | he | ⟨-, he⟩⟩ | ⟨-, he⟩ <;> rw [he]
  · exact planLaws_of_views h rfl rfl rfl
  · exact planLaws_of_views h rfl rfl rfl
  · exact planLaws_initial rfl
  · exact planLaws_of_views h rfl rfl rfl
  · exact planLaws_of_views h rfl rfl rfl

theorem planLaws_event {s t : State} (h : PlanLaws s) (he : Event s t) : PlanLaws t := by
  have hline : ∀ {u : State}, u.plan = s.plan → configView u = configView s → PlanLaws u := fun hplan hconfig =>
    planLaws_of_views h (by unfold planView; rw [hplan]) (controlView_of_plan hplan) hconfig
  cases he with
  | header p b => exact hline ((plan_lines _).header p b rfl) ((configView_lines _).header p b rfl)
  | frameEnd p b => exact hline ((plan_lines _).frameEnd p b rfl) ((configView_lines _).frameEnd p b rfl)
  | link p l => exact hline ((plan_lines _).link p l rfl) ((configView_lines _).link p l rfl)
  | completeD =>
    rename_i t _
    refine hline ?_ (configView_completeD t s)
    rw [completeD_eq]
    cases t.source <;> rfl
  | completeU => exact planLaws_completeU h _
  | engine =>
    exact engineEvent_keeps (I := PlanLaws)
      (fun hs => planLaws_of_views hs (planView_closeWindow _) (controlView_closeWindow _) (configView_closeWindow _))
      (fun hs => planLaws_of_views hs (planView_takeSlot _) (controlView_takeSlot _) (by rw [takeSlot_eq]; rfl)) h
  | request _ ht =>
    exact answered_keeps (I := PlanLaws) planLaws_effect (fun _ hs => planLaws_of_views hs rfl rfl rfl)
      (fun o hs => planLaws_of_views hs (planView_report o _) (by rw [report_eq]; rfl) (configView_report o _)) h ht

theorem planLaws_conclude (before : State) {s : State} (h : PlanLaws s) : PlanLaws (conclude before s) := by
  have hplan := (win_conclude before s).2
  refine planLaws_of_views h (by unfold planView; rw [hplan]) (controlView_of_plan hplan) ?_
  have hD : configView (if invokesD before s then arbiterD s else s) = configView s := by
    split
    · exact configView_arbiterD s
    · rfl
  unfold conclude
  dsimp only
  split
  · exact (configView_arbiterU _).trans hD
  · exact hD

theorem configView_newCycle (order : List WrapAct) (s : State) : configView (newCycle order s) = configView s := by
  have hacted : configView (acted s (wrapPlan s) (fullOrder order defaultOrder) (beginCycle (wrapPlan s) s)) =
      configView s :=
    acted_keeps (I := fun t => configView t = configView s)
      (fun a _ t ht => (configView_wrapAct s _ a t).trans ht) rfl
  have hblocks : configView (newCycle order s) = configView (wrapBlocks order s) := by rw [newCycle_eq]; rfl
  rw [hblocks, wrapBlocks_eq]
  exact hacted

theorem activeAfterClose_slots (s : State) :
    (activeAfterClose s).map ActiveSlot.slot = s.plan.active.map ActiveSlot.slot := by
  unfold activeAfterClose
  split
  · split
    · rw [← modify_eq_spentAt, map_slot_spent]
    · rfl
  · rfl

theorem plannedAt_staged (p : Plan) :
    (plannedAt false p).staged = p.staged ∧ (plannedAt false p).mode.switching = p.mode.switching := by
  unfold plannedAt
  split
  · exact ⟨rfl, switching_withHold _ _⟩
  · rw [countHold_eq]
    exact ⟨rfl, rfl⟩

/-- The slots that a switch makes active were the staged ones of a pending switch (R117). -/
theorem streamInUse_planAfterWrap (s : State) (n : Cycle) (i : StreamId)
    (h : streamInUse i (planAfterWrap s (switchesInto s n)) = true) : streamInUse i s.plan = true := by
  cases hsw : switchesInto s n with
  | true =>
    have hmode := pending_of_switchesInto hsw
    rw [hsw, planAfterWrap_of_switches hmode, streamInUse_iff, pendingSwitch_eq] at h
    rw [streamInUse_iff, pendingSwitch_eq, hmode]
    rcases h with ⟨a, ha, hi⟩ | ⟨hno, -⟩
    · obtain ⟨x, hx, rfl⟩ := List.mem_map.1 ha
      exact .inr ⟨rfl, x, hx, hi⟩
    · cases hno
  | false =>
    obtain ⟨hstaged, hmode⟩ := plannedAt_staged s.plan
    rw [hsw] at h
    exact streamInUse_of_slots (q := planAfterWrap s false) (activeAfterClose_slots s)
      (fun hq => ⟨hmode.symm.trans hq, hstaged⟩) i h

theorem planCoherent_planAfterWrap {s : State} (h : PlanCoherent s) (n : Cycle) :
    PlanCoherent { s with plan := planAfterWrap s (switchesInto s n) } := by
  have hguard : (if s.plan.resumeGuard < 2 then s.plan.resumeGuard + 1 else 2) ≤ 2 := by split <;> omega
  cases hsw : switchesInto s n with
  | true =>
    have hmode := pending_of_switchesInto hsw
    rw [planAfterWrap_of_switches hmode]
    exact ⟨⟨fun _ => rfl, fun _ => rfl⟩, fun _ => h.hold (by rw [hmode]; rfl), h.holdCount, hguard⟩
  | false =>
    by_cases he : holdExpires s.plan = true
    · have htarget : s.plan.target = .none ↔ (s.plan.mode.withHold false).switching = false := by
        rw [switching_withHold]; exact h.target
      unfold planAfterWrap plannedAt
      rw [if_pos he]
      exact ⟨htarget, fun _ => ⟨rfl, rfl⟩, .inl ⟨rfl, rfl⟩, Nat.zero_le 2⟩
    · rw [planAfterWrap_of_counts he]
      by_cases hcounts : holding s.plan = true ∧ s.plan.holdLimit ≠ 0
      · have hholds : s.plan.mode.holds = true := (holding_eq _).symm.trans hcounts.1
        have hlow : s.plan.holdCount + 1 < s.plan.holdLimit := by
          have hne : s.plan.holdCount + 1 ≠ s.plan.holdLimit := fun heq => he (by simp [holdExpires, hholds, hcounts.2, heq])
          have := h.holdCount
          have := hcounts.2
          omega
        rw [if_pos hcounts]
        exact ⟨h.target, fun hfree => absurd (hholds.symm.trans hfree) (by decide), .inr hlow, hguard⟩
      · rw [if_neg hcounts]
        exact ⟨h.target, h.hold, h.holdCount, hguard⟩

/-- The wrap keeps the laws: a switch takes effect only where its plan has been verified, and a hold is counted only below
its limit. -/
theorem planLaws_newCycle (order : List WrapAct) {s : State} (h : PlanLaws s) : PlanLaws (newCycle order s) := by
  obtain ⟨plans, named, coherent⟩ := h
  have hplan := plan_newCycle order s
  rw [switches_eq] at hplan
  refine ⟨plansOrdered_kept.events.wrap order plans, namedValid_of_use named (fun i hi => ?_) (fun i _ hv => ?_), ?_⟩
  · rw [hplan] at hi
    exact streamInUse_planAfterWrap s _ i hi
  · rw [valid_of_config (configView_newCycle order s)]; exact hv
  · exact planCoherent_of_control (planCoherent_planAfterWrap coherent (wrapPlan s).number) (controlView_of_plan hplan)

theorem planLaws_quiet {s t : State} (h : PlanLaws s) (he : Invariants.Quiet s t) : PlanLaws t := by
  cases he with
  | byte p b =>
    have hplan := (plan_lines s.plan).byte p b rfl
    exact planLaws_of_views h (by unfold planView; rw [hplan]) (controlView_of_plan hplan)
      ((configView_lines _).byte p b rfl)
  | _ => exact planLaws_of_views h rfl rfl rfl

theorem planLaws_kept : KeptByEvents PlanLaws where
  quiet h he := planLaws_quiet h he
  event h he := planLaws_conclude _ (planLaws_event h he)
  wrap order h := planLaws_newCycle order h

theorem planLaws_lift : Lifts PlanLaws PlanLaws where
  kept := planLaws_kept
  running _ := Iff.rfl
  pending _ h := planLaws_of_views h rfl rfl rfl
  begins _ h := planLaws_of_views h rfl rfl rfl
  conditions _ _ h := planLaws_of_views h rfl rfl rfl
  values _ _ := planLaws_initial rfl

/-- Settles O55: an entry in use is not deleted, a switch takes effect only on the plan it was verified for, and a count
of wraps stays below the limit at which the hold ends. -/
theorem planLawsKept : Obligations.PlanLawsKept := fun _ _ hs he => planLaws_lift.step hs he

end Sys2Proof.Plans
end

section
/-! PROOF. The edits of the staged plan: where a slot stands in a plan that keeps its ordering law, each edit's checks in
order, and the settling of the obligations on them (R104 to R110). -/

namespace Sys2Proof.Plans

open Sys2Proof.Machine Sys2Proof.Safety Sys2Proof.Claims Sys2Proof.Link Sys2Proof.Invariants Sys2Proof.Requests

/-! ### Slots in the order of their OPENs (R104) -/

/-- The OPENs of the slots ascend strictly. -/
def Ascending (slots : List Slot) : Prop := slots.Pairwise fun x y => x.openAt < y.openAt

theorem ascending_of_planOrdered {slots : List Slot} (h : PlanOrdered slots) : Ascending slots :=
  h.ordered.imp_of_mem fun {x y} hx _ hxy => by
    have := (h.ranges x hx).spanLow
    omega

/-- Of the slots behind one at or after `openAt`, none opens before `openAt`. -/
theorem filter_below_eq_nil {x : Slot} {slots : List Slot} {openAt : Nat} (h : ∀ y ∈ slots, x.openAt < y.openAt)
    (hx : openAt ≤ x.openAt) : (slots.filter fun y => decide (y.openAt < openAt)) = [] :=
  List.filter_eq_nil_iff.2 fun y hy => by
    have := h y hy
    simp only [decide_eq_true_eq]
    omega

theorem slotsBelow_eq_filter {slots : List Slot} (h : Ascending slots) (openAt : Nat) :
    slotsBelow slots openAt = slots.filter fun y => decide (y.openAt < openAt) := by
  unfold slotsBelow
  induction slots with
  | nil => rfl
  | cons x slots ih =>
    obtain ⟨hx, hrest⟩ := List.pairwise_cons.1 h
    by_cases hlt : x.openAt < openAt
    · rw [List.takeWhile_cons_of_pos (by simpa using hlt), List.filter_cons_of_pos (by simpa using hlt), ih hrest]
    · rw [List.takeWhile_cons_of_neg (by simpa using hlt), List.filter_cons_of_neg (by simpa using hlt),
        filter_below_eq_nil hx (by omega)]

theorem slotsFrom_eq_filter {slots : List Slot} (h : Ascending slots) {openAt : Nat}
    (hfree : ∀ y ∈ slots, y.openAt ≠ openAt) :
    slotsFrom slots openAt = slots.filter fun y => decide (openAt < y.openAt) := by
  unfold slotsFrom
  induction slots with
  | nil => rfl
  | cons x slots ih =>
    obtain ⟨hx, hrest⟩ := List.pairwise_cons.1 h
    have hne := hfree x List.mem_cons_self
    by_cases hlt : x.openAt < openAt
    · rw [List.dropWhile_cons_of_pos (by simpa using hlt), List.filter_cons_of_neg (by simp; omega),
        ih hrest fun y hy => hfree y (List.mem_cons_of_mem x hy)]
    · have hall : ∀ y ∈ slots, decide (openAt < y.openAt) = true := fun y hy => by
        have := hx y hy
        simp only [decide_eq_true_eq]
        omega
      rw [List.dropWhile_cons_of_neg (by simpa using hlt), List.filter_cons_of_pos (by simp; omega),
        List.filter_eq_self.2 hall]

/-- A slot's position is the number of slots below it, and to remove it is to keep the others (R107). -/
theorem findIdx_ascending {slots : List Slot} (h : Ascending slots) {openAt pos : Nat}
    (hfound : (slots.findIdx? fun x => x.openAt == openAt) = some pos) :
    pos = slots.countP (fun y => decide (y.openAt < openAt)) ∧
      slots.eraseIdx pos = slots.filter fun y => decide (y.openAt ≠ openAt) := by
  induction slots generalizing pos with
  | nil => cases hfound
  | cons x slots ih =>
    obtain ⟨hx, hrest⟩ := List.pairwise_cons.1 h
    rw [List.findIdx?_cons] at hfound
    by_cases heq : x.openAt = openAt
    · rw [if_pos (by simpa using heq)] at hfound
      obtain rfl : 0 = pos := Option.some.inj hfound
      have hkept : ∀ y ∈ slots, decide (y.openAt ≠ openAt) = true := fun y hy => by
        have := hx y hy
        simp only [decide_eq_true_eq]
        omega
      rw [List.countP_eq_length_filter, List.filter_cons_of_neg (by simp; omega), filter_below_eq_nil hx (by omega),
        List.filter_cons_of_neg (by simpa using heq), List.filter_eq_self.2 hkept]
      exact ⟨rfl, rfl⟩
    · rw [if_neg (by simpa using heq)] at hfound
      obtain ⟨n, hn, rfl⟩ := Option.map_eq_some_iff.1 hfound
      obtain ⟨hcount, herase⟩ := ih hrest hn
      obtain ⟨y, hy, hyo⟩ : ∃ y ∈ slots, y.openAt = openAt := by
        obtain ⟨hlt, hp, -⟩ := List.findIdx?_eq_some_iff_getElem.1 hn
        exact ⟨slots[n], List.getElem_mem hlt, by simpa using hp⟩
      have hbelow : x.openAt < openAt := hyo ▸ hx y hy
      rw [List.countP_cons_of_pos (by simpa using hbelow), ← hcount, List.eraseIdx_cons_succ, herase,
        List.filter_cons_of_pos (by simpa using heq)]
      exact ⟨rfl, rfl⟩

/-! ### Two windows share a tick (R106, check 5) -/

theorem windowsCross_iff (x y : Slot) :
    windowsCross x y = true ↔
      y.openAt < x.openAt ∧ x.openAt < y.openAt + y.span ∨ x.openAt < y.openAt ∧ y.openAt < x.openAt + x.span :=
  decide_eq_true_iff

/-- A new slot overlaps its predecessor or its successor exactly if its window crosses that of some slot. -/
theorem overlaps_iff {slots : List Slot} {x : Slot} (h : PlanOrdered slots)
    (hfree : ∀ y ∈ slots, y.openAt ≠ x.openAt) :
    overlaps slots x = true ↔ ∃ y ∈ slots, windowsCross x y = true := by
  simp only [windowsCross_iff]
  constructor
  · intro hover
    rw [overlaps, Bool.or_eq_true] at hover
    rcases hover with hlast | hhead
    · split at hlast
      · rename_i p hp
        have hmem : p ∈ slotsBelow slots x.openAt := List.mem_of_getLast? hp
        have hlow : p.openAt < x.openAt := by simpa using List.mem_takeWhile_imp hmem
        exact ⟨p, (List.takeWhile_sublist _).subset hmem, .inl ⟨hlow, by simpa using hlast⟩⟩
      · cases hlast
    · split at hhead
      · rename_i n hn
        have hmem : n ∈ slotsFrom slots x.openAt := List.mem_of_head? hn
        rw [slotsFrom_eq_filter (ascending_of_planOrdered h) hfree, List.mem_filter] at hmem
        exact ⟨n, hmem.1, .inr ⟨by simpa using hmem.2, by simpa using hhead⟩⟩
      · cases hhead
  · rintro ⟨y, hy, hcross⟩
    by_contra hapart
    have hapart' : overlaps slots x = false := by simpa using hapart
    have hasc := ascending_of_planOrdered h
    rcases hcross with ⟨hlow, hshare⟩ | ⟨hhigh, hshare⟩
    · have := slotsBelow_before h hapart' y (by
        rw [slotsBelow_eq_filter hasc, List.mem_filter]; exact ⟨hy, by simpa using hlow⟩)
      omega
    · have := slotsFrom_after h hapart' y (by
        rw [slotsFrom_eq_filter hasc hfree, List.mem_filter]; exact ⟨hy, by simpa using hhigh⟩)
      omega

/-! ### Staged edits (R105) -/

/-- BUSY while a switch is pending comes before an edit's own checks (R105). -/
theorem answersAs_editing {s : State} {edit : Answer} {v : Verdict} (h : AnswersAs s edit v) :
    AnswersAs s (editing (takeHead s) edit) (if pendingSwitch s.plan then refused 1 s else v) :=
  answersAs_ite (by rw [pendingSwitch_eq]; exact Iff.rfl) (fun _ => answersAs_refuse s .busy) fun _ => h

/-- An edit that is made changes the staged plan and the staged L alone. -/
theorem answersAs_setStaged (s : State) {slots slots' : List Slot} (hslots : slots = slots') (l : Nat)
    {result result' : List Byte} (hresult : result = result') :
    AnswersAs s (accept (setStaged slots l (takeHead s)) result)
      { status := 0, result := result', state := { s with plan := { s.plan with staged := slots', stagedL := l } } } := by
  subst hslots hresult
  exact ⟨rfl, rfl, rfl, ⟨rfl, rfl, rfl, rfl, invokesD_of_view_eq rfl⟩⟩

/-! ### SLOT_ADD (R106) -/

section SlotAdd

variable (o3 o2 o1 o0 p1 p0 stream quota every phase once : Byte)

/-- The ranges of R80 on what SLOT_ADD carries. -/
def SlotCarried : Prop :=
  word4 o3 o2 o1 o0 ≤ 1999999 ∧ 8 ≤ word2 p1 p0 ∧ stream.toNat < 32 ∧ 1 ≤ quota.toNat ∧ quota.toNat ≤ 4 ∧
    every.toNat ∈ [1, 2, 4, 8] ∧ phase.toNat < every.toNat ∧ once.toNat ≤ 1

/-- The slot that SLOT_ADD carries. -/
def slotCarried (h : stream.toNat < 32) : Slot :=
  { openAt := word4 o3 o2 o1 o0, span := word2 p1 p0, stream := ⟨stream.toNat, h⟩, quota := quota.toNat,
    every := every.toNat, phase := phase.toNat, once := decide (once = 1) }

theorem slotArgs_cases :
    (∀ h : stream.toNat < 32, SlotCarried o3 o2 o1 o0 p1 p0 stream quota every phase once →
      slotArgs [o3, o2, o1, o0, p1, p0, stream, quota, every, phase, once] =
        some (slotCarried o3 o2 o1 o0 p1 p0 stream quota every phase once h)) ∧
    (¬ SlotCarried o3 o2 o1 o0 p1 p0 stream quota every phase once →
      slotArgs [o3, o2, o1, o0, p1, p0, stream, quota, every, phase, once] = none) := by
  have hopen : arg [o3, o2, o1, o0, p1, p0, stream, quota, every, phase, once] 0 4 = word4 o3 o2 o1 o0 :=
    natBE_four o3 o2 o1 o0
  have hspan : arg [o3, o2, o1, o0, p1, p0, stream, quota, every, phase, once] 4 2 = word2 p1 p0 := natBE_two p1 p0
  have hstream : arg [o3, o2, o1, o0, p1, p0, stream, quota, every, phase, once] 6 1 = stream.toNat := natBE_one stream
  have hquota : arg [o3, o2, o1, o0, p1, p0, stream, quota, every, phase, once] 7 1 = quota.toNat := natBE_one quota
  have hevery : arg [o3, o2, o1, o0, p1, p0, stream, quota, every, phase, once] 8 1 = every.toNat := natBE_one every
  have hphase : arg [o3, o2, o1, o0, p1, p0, stream, quota, every, phase, once] 9 1 = phase.toNat := natBE_one phase
  have honce : arg [o3, o2, o1, o0, p1, p0, stream, quota, every, phase, once] 10 1 = once.toNat := natBE_one once
  have hone : decide (once.toNat = 1) = decide (once = 1) := decide_eq_decide.2 (BitVec.toNat_inj (y := 1#8))
  have hlisted : every.toNat ∈ [1, 2, 4, 8] ↔
      every.toNat = 1 ∨ every.toNat = 2 ∨ every.toNat = 4 ∨ every.toNat = 8 := by simp
  unfold slotArgs SlotCarried
  rw [hopen, hspan, hstream, hquota, hevery, hphase, honce, flagOf_eq, hone, hlisted]
  refine ⟨fun h ⟨ho, hp, _, hq, hq', he, hph, hflag⟩ => ?_, fun hbad => ?_⟩
  · rw [streamIdOf_of_lt h, if_neg (Nat.not_lt.2 hflag)]
    exact if_pos ⟨ho, hp, hq, hq', he, hph⟩
  · by_cases h : stream.toNat < 32
    · rw [streamIdOf_of_lt h]
      by_cases hflag : 1 < once.toNat
      · rw [if_pos hflag]
      · rw [if_neg hflag]
        exact if_neg fun ⟨ho, hp, hq, hq', he, hph⟩ => hbad ⟨ho, hp, h, hq, hq', he, hph, Nat.not_lt.1 hflag⟩
    · rw [streamIdOf_of_not_lt h]

end SlotAdd

theorem slotAdd_answers {a : List Byte} {x : Slot} (ha : slotArgs a = some x) {s : State}
    (h : PlanOrdered s.plan.staged) : AnswersAs s (slotAddOwner a (takeHead s)) (slotAddVerdict x s) := by
  have hasc := ascending_of_planOrdered h
  have hfull : Config.planCapacity ≤ s.plan.staged.length ↔ s.plan.staged.length = 64 :=
    ⟨fun hc => Nat.le_antisymm h.length hc, fun hc => hc.ge⟩
  have hequal : (s.plan.staged.any fun y => y.openAt == x.openAt) = true ↔ ∃ y ∈ s.plan.staged, y.openAt = x.openAt := by
    simp
  unfold slotAddOwner
  rw [ha]
  refine answersAs_editing ?_
  refine answersAs_ite hfull (fun _ => answersAs_refuse s .full) fun _ => ?_
  refine answersAs_ite hequal (fun _ => answersAs_refuse s .duplicate) fun hfresh => ?_
  have hfree : ∀ y ∈ s.plan.staged, y.openAt ≠ x.openAt := fun y hy he => hfresh (hequal.2 ⟨y, hy, he⟩)
  refine answersAs_ite (overlaps_iff h hfree) (fun _ => answersAs_refuse s .overlap) fun _ => ?_
  refine answersAs_setStaged s ?_ s.plan.stagedL ?_
  · exact congrArg₂ (fun below above => below ++ x :: above) (slotsBelow_eq_filter hasc _)
      (slotsFrom_eq_filter hasc hfree)
  · exact congrArg (fun below : List Slot => [BitVec.ofNat 8 below.length]) (slotsBelow_eq_filter hasc _)

/-- Settles O42: the two parts into which SLOT_ADD splits a plan of ascending OPENs are the slots below the new one and
those above it. -/
theorem slotAddPlaces : Obligations.SlotAddPlaces := by
  intro s f rest o3 o2 o1 o0 p1 p0 stream quota every phase once ha hr
  obtain ⟨hin, hout⟩ := slotArgs_cases o3 o2 o1 o0 p1 p0 stream quota every phase once
  refine ⟨fun hbad => ?_, fun h hgood hordered => ?_⟩
  · refine congrArg Host.Outcome.next (execOp_eq ha hr rfl rfl ?_)
    unfold slotAddOwner
    rw [hout hbad]
    exact answersAs_refuse s .arg
  · exact congrArg Host.Outcome.next (execOp_eq ha hr rfl rfl (slotAdd_answers (hin h hgood) hordered))

/-! ### SLOT_DROP, STAGE_EMPTY, STAGE_FROM_ACTIVE and CYCLE_STAGE (R107 to R110) -/

theorem slotDrop_answers (o3 o2 o1 o0 : Byte) {s : State} (h : PlanOrdered s.plan.staged) :
    AnswersAs s (slotDropOwner [o3, o2, o1, o0] (takeHead s)) (slotDropVerdict (word4 o3 o2 o1 o0) s) := by
  have hopen : arg [o3, o2, o1, o0] 0 4 = word4 o3 o2 o1 o0 := natBE_four o3 o2 o1 o0
  unfold slotDropOwner slotDropVerdict
  rw [hopen]
  generalize word4 o3 o2 o1 o0 = openAt
  refine answersAs_ite Iff.rfl (fun _ => answersAs_refuse s .arg) fun _ => ?_
  refine answersAs_editing ?_
  show AnswersAs s (match s.plan.staged.findIdx? fun x => x.openAt == openAt with | some pos => _ | none => _) _
  cases hfound : s.plan.staged.findIdx? fun x => x.openAt == openAt with
  | none =>
    have hnone : ¬ ∃ y ∈ s.plan.staged, y.openAt = openAt := by simpa using hfound
    rw [if_neg hnone]
    exact answersAs_refuse s .absent
  | some pos =>
    have hsome : ∃ y ∈ s.plan.staged, y.openAt = openAt := by
      by_contra hnone
      rw [List.findIdx?_eq_none_iff.2 (by simpa using hnone)] at hfound
      cases hfound
    obtain ⟨hcount, herase⟩ := findIdx_ascending (ascending_of_planOrdered h) hfound
    rw [if_pos hsome]
    exact answersAs_setStaged s herase s.plan.stagedL (congrArg (fun n => [BitVec.ofNat 8 n]) hcount)

theorem stageEmpty_answers (s : State) : AnswersAs s (stageEmptyOwner [] (takeHead s)) (stageEmptyVerdict s) :=
  answersAs_editing (answersAs_setStaged s rfl s.plan.stagedL rfl)

theorem stageFromActive_answers (s : State) :
    AnswersAs s (stageFromActiveOwner [] (takeHead s)) (stageFromActiveVerdict s) :=
  answersAs_editing (answersAs_setStaged s rfl s.plan.activeL rfl)

theorem cycleStage_answers (l3 l2 l1 l0 : Byte) (s : State) :
    AnswersAs s (cycleStageOwner [l3, l2, l1, l0] (takeHead s)) (cycleStageVerdict (word4 l3 l2 l1 l0) s) := by
  have hl : arg [l3, l2, l1, l0] 0 4 = word4 l3 l2 l1 l0 := natBE_four l3 l2 l1 l0
  unfold cycleStageOwner cycleStageVerdict
  rw [hl]
  refine answersAs_ite Iff.rfl (fun _ => answersAs_refuse s .arg) fun _ => ?_
  exact answersAs_editing (answersAs_setStaged s rfl _ rfl)

/-- Settles O43: in a plan of ascending OPENs a slot's position is the number of slots below it. -/
theorem stagedEditsApply : Obligations.StagedEditsApply := fun s _ _ ha =>
  ⟨fun o3 o2 o1 o0 h hr => congrArg Host.Outcome.next (execOp_eq ha hr rfl rfl (slotDrop_answers o3 o2 o1 o0 h)),
    fun hr => congrArg Host.Outcome.next (execOp_eq ha hr rfl rfl (stageEmpty_answers s)),
    fun hr => congrArg Host.Outcome.next (execOp_eq ha hr rfl rfl (stageFromActive_answers s)),
    fun l3 l2 l1 l0 hr => congrArg Host.Outcome.next (execOp_eq ha hr rfl rfl (cycleStage_answers l3 l2 l1 l0 s))⟩

end Sys2Proof.Plans
end

section
/-! PROOF. SWITCH, WITHDRAW, HOLD and RESUME: the verification of the staged plan, the target, the hold and the gate, each
owner's checks in order, and the settling of the obligations on them (R82, R96, R97, R100, R112 to R115, R120 to R122). -/

namespace Sys2Proof.Plans

open Sys2Proof.Machine Sys2Proof.Safety Sys2Proof.Claims Sys2Proof.Link Sys2Proof.Invariants Sys2Proof.Requests
  Sys2Proof.Windows

/-! ### The verification of the staged plan (R114) -/

/-- The reasons of R114 by their codes, 0 where a slot passes. -/
theorem slotFault_code (s : State) (x : Slot) :
    (slotFault s x = none ∧ verifyReason s x = 0) ∨
    ∃ r, slotFault s x = some r ∧ r.code = verifyReason s x ∧ verifyReason s x ≠ 0 := by
  have htail : (s.sync.settings.enable && decide (s.plan.stagedL < x.openAt + x.span + s.sync.settings.slewLimit)) =
      true ↔ s.sync.settings.enable = true ∧
        (s.plan.stagedL : Int) - s.sync.settings.slewLimit < x.openAt + x.span := by
    rw [Bool.and_eq_true, decide_eq_true_eq]
    exact and_congr_right fun _ => by omega
  unfold slotFault verifyReason
  cases (s.stream x.stream).valid with
  | false => exact .inr ⟨.dangling, rfl, rfl, show (1 : Byte) ≠ 0 by decide⟩
  | true =>
    rw [if_neg (show ¬ (!true) = true by decide), if_neg (show ¬ true = false by decide)]
    by_cases hbeyond : s.plan.stagedL < x.openAt + x.span
    · rw [if_pos hbeyond, if_pos hbeyond]
      exact .inr ⟨.beyond, rfl, rfl, by decide⟩
    · rw [if_neg hbeyond, if_neg hbeyond]
      by_cases hcut : s.sync.settings.enable = true ∧
          (s.plan.stagedL : Int) - s.sync.settings.slewLimit < x.openAt + x.span
      · rw [if_pos (htail.2 hcut), if_pos hcut]
        exact .inr ⟨.tail, rfl, rfl, by decide⟩
      · rw [if_neg (mt htail.1 hcut), if_neg hcut]
        exact .inl ⟨rfl, rfl⟩

/-- The first staged slot that fails is the one verification names. -/
theorem verifyPlan_cases (s : State) :
    ((s.plan.staged.find? fun x => decide (verifyReason s x ≠ 0)) = none ∧ verifyPlan s = none) ∨
    ∃ x r, (s.plan.staged.find? fun x => decide (verifyReason s x ≠ 0)) = some x ∧
      verifyPlan s = some (r, x.openAt) ∧ r.code = verifyReason s x := by
  unfold verifyPlan
  induction s.plan.staged with
  | nil => exact .inl ⟨rfl, rfl⟩
  | cons x slots ih =>
    rcases slotFault_code s x with ⟨hfault, hzero⟩ | ⟨r, hfault, hcode, hne⟩
    · rw [List.find?_cons_of_neg (by simpa using hzero), List.findSome?_cons, hfault]
      exact ih
    · rw [List.find?_cons_of_pos (by simpa using hne), List.findSome?_cons, hfault]
      exact .inr ⟨x, r, rfl, rfl, hcode⟩

/-! ### SWITCH and WITHDRAW (R113, R120) -/

theorem word4_lt (a b c d : Byte) : word4 a b c d < 4294967296 := by
  have := a.isLt; have := b.isLt; have := c.isLt; have := d.isLt
  unfold word4
  omega

/-- The distance of R113, modulo 2 to the power 32. -/
theorem distance_eq {n : Nat} (hn : n < 4294967296) (now : Cycle) :
    (BitVec.ofNat 32 n - now).toNat = (n + 4294967296 - now.toNat) % 4294967296 := by
  have := now.isLt
  rw [BitVec.toNat_sub, BitVec.toNat_ofNat]
  omega

/-- ARG is the answer where the mode is undefined, or the distance out of range under AT (R113, check 1). -/
abbrev TargetOutOfRange (mode : Byte) (ahead : Nat) : Prop :=
  1 < mode.toNat ∨ mode = 1 ∧ (ahead < 1 ∨ 65535 < ahead)

theorem switchTarget_eq (mode n3 n2 n1 n0 : Byte) (now : Cycle) :
    switchTarget [mode, n3, n2, n1, n0] now =
      if TargetOutOfRange mode ((word4 n3 n2 n1 n0 + 4294967296 - now.toNat) % 4294967296) then none
      else some (if mode = 0 then .next else .atCycle (BitVec.ofNat 32 (word4 n3 n2 n1 n0))) := by
  have hmode : arg [mode, n3, n2, n1, n0] 0 1 = mode.toNat := natBE_one mode
  have hn : arg [mode, n3, n2, n1, n0] 1 4 = word4 n3 n2 n1 n0 := natBE_four n3 n2 n1 n0
  have hzero : mode = 0 ↔ mode.toNat = 0 := (BitVec.toNat_inj (y := 0#8)).symm
  have hone : mode = 1 ↔ mode.toNat = 1 := (BitVec.toNat_inj (y := 1#8)).symm
  have hahead := distance_eq (word4_lt n3 n2 n1 n0) now
  unfold switchTarget
  rw [hmode, hn]
  dsimp only
  rw [hahead]
  generalize (word4 n3 n2 n1 n0 + 4294967296 - now.toNat) % 4294967296 = ahead
  have hcases : mode.toNat = 0 ∨ mode.toNat = 1 ∨ ∃ k, mode.toNat = k + 2 := by
    rcases mode.toNat with _ | _ | k <;> simp
  rcases hcases with hm | hm | ⟨k, hm⟩
  · have hnext : ¬ TargetOutOfRange mode ahead := by unfold TargetOutOfRange; rw [hone]; omega
    rw [if_neg hnext, if_pos (hzero.2 hm), hm]
    rfl
  · have hnot : ¬ mode = 0 := by rw [hzero]; omega
    by_cases hrange : 1 ≤ ahead ∧ ahead ≤ 65535
    · have hat : ¬ TargetOutOfRange mode ahead := by unfold TargetOutOfRange; rw [hone]; omega
      rw [if_neg hat, if_neg hnot, hm, if_pos hrange]
      rfl
    · have hout : TargetOutOfRange mode ahead := .inr ⟨hone.2 hm, by omega⟩
      rw [if_pos hout, hm, if_neg hrange]
      rfl
  · have hundefined : TargetOutOfRange mode ahead := .inl (by omega)
    rw [if_pos hundefined, hm]
    rfl

/-- SWITCH's effect leaves the gate as it is, and no arbiter is invoked but by the reply (R82, R100). -/
theorem undisturbed_switch {s : State} (hsteady : s.plan.mode = .steady) (t : Target) :
    Undisturbed s { s with plan := { s.plan with mode := .pending, target := t } } := by
  refine ⟨rfl, rfl, rfl, rfl, invokesD_of_view_eq ?_⟩
  unfold arbiterViewD gateOpen
  rw [hsteady]
  rfl

theorem switch_answers (mode n3 n2 n1 n0 : Byte) (s : State) :
    AnswersAs s (switchOwner [mode, n3, n2, n1, n0] (takeHead s)) (switchVerdict mode (word4 n3 n2 n1 n0) s) := by
  have hheld : holding s.plan = s.plan.mode.holds := holding_eq s.plan
  unfold switchOwner switchVerdict
  show AnswersAs s (match switchTarget _ s.timer.cycle with | some t => _ | none => _) _
  rw [switchTarget_eq]
  generalize word4 n3 n2 n1 n0 = n
  by_cases hrange : TargetOutOfRange mode ((n + 4294967296 - s.timer.cycle.toNat) % 4294967296)
  · rw [if_pos hrange, if_pos hrange]
    exact answersAs_refuse s .arg
  · rw [if_neg hrange, if_neg hrange, hheld]
    show AnswersAs s (match s.plan.mode with
      | .held => _
      | .heldPending => _
      | .pending => _
      | .steady => match verifyPlan s with | some (r, openAt) => _ | none => _) _
    cases hm : s.plan.mode with
    | held => exact answersAs_refuse s .state
    | heldPending => exact answersAs_refuse s .state
    | pending => exact answersAs_refuse s .busy
    | steady =>
      rcases verifyPlan_cases s with ⟨hfind, hverify⟩ | ⟨x, r, hfind, hverify, hcode⟩ <;> rw [hfind, hverify]
      · exact ⟨rfl, congrArg (fun b => [b]) (bytesBE_four _), rfl, undisturbed_switch hm _⟩
      · refine answersAs_read s .verify ?_
        unfold verifyResult
        rw [hcode, bytesBE_four]

/-- WITHDRAW leaves the hold half of the plan state, and so the gate (R82, R112). -/
theorem undisturbed_withdraw (s : State) : Undisturbed s (withdrawSwitch s) := by
  refine ⟨rfl, rfl, rfl, rfl, invokesD_of_view_eq ?_⟩
  have hgate : gateOpen (withdrawSwitch s) = gateOpen s :=
    congrArg (fun b => !b && !syncClosed s.sync) (holds_withSwitch s.plan.mode false)
  unfold arbiterViewD
  rw [hgate]
  rfl

/-- WITHDRAW's reply holds the target in the codes of SWITCH (R120, R145). -/
theorem withdrawn_bytes (t : Target) :
    t.switchCode :: bytesBE 4 t.cycle.toNat =
      match t with
      | .atCycle n => 1 :: be4 n.toNat
      | .next => 0 :: be4 0
      | .none => 0 :: be4 0 := by
  rw [bytesBE_four]
  cases t <;> rfl

/-- A pending switch withdrawn: the hold half of the plan state is left (R112, R120). -/
theorem withdrawn_answers (s : State) {m : PlanMode} (hm : s.plan.mode.withSwitch false = m) (result : List Byte) :
    AnswersAs s (accept (withdrawSwitch (takeHead s)) result)
      { status := 0, result := result
        state :=
          { s with
            plan :=
              { s.plan with
                mode := m
                target := .none
                counters := { s.plan.counters with switchesWithdrawn := s.plan.counters.switchesWithdrawn + 1 } } } } := by
  subst hm
  exact ⟨rfl, rfl, rfl, undisturbed_withdraw s⟩

theorem withdraw_answers (s : State) : AnswersAs s (withdrawOwner [] (takeHead s)) (withdrawVerdict s) := by
  unfold withdrawOwner withdrawVerdict
  show AnswersAs s (if s.plan.mode.switching then
    accept (withdrawSwitch (takeHead s)) (s.plan.target.switchCode :: bytesBE 4 s.plan.target.cycle.toNat) else _) _
  rw [withdrawn_bytes]
  cases hm : s.plan.mode with
  | steady => exact answersAs_refuse s .state
  | held => exact answersAs_refuse s .state
  | pending => exact withdrawn_answers s (by rw [hm]; rfl) _
  | heldPending => exact withdrawn_answers s (by rw [hm]; rfl) _

/-- Settles O44: verification stops at the first staged slot with a reason, and a target leaves the gate as it is. -/
theorem switchAndWithdraw : Obligations.SwitchAndWithdraw := fun s _ _ ha =>
  ⟨fun mode n3 n2 n1 n0 hr =>
      congrArg Host.Outcome.next (execOp_eq ha hr rfl rfl (switch_answers mode n3 n2 n1 n0 s)),
    fun hr => congrArg Host.Outcome.next (execOp_eq ha hr rfl rfl (withdraw_answers s))⟩

/-! ### What follows a change of the gate (R97, R100) -/

theorem invokesD_of_gate {s t : State} (h : gateOpen t ≠ gateOpen s) : invokesD s t = true := by
  have hchanged : (gateOpen s != gateOpen t) = true := bne_iff_ne.2 (Ne.symm h)
  unfold invokesD
  rw [hchanged, Bool.or_true]

/-- A reply placed in the empty outbox invokes port U's arbiter, and the answer invokes it in no other way (R32). -/
theorem invokesU_answered {s : State} {v : Verdict} (h : arbiterViewU v.state = arbiterViewU s) (f : FrameBytes)
    (rest : List FrameBytes) (op : Byte) : invokesU s (answered s f rest op v) = s.mgmt.outbox.isEmpty := by
  simp only [arbiterViewU, Prod.mk.injEq] at h
  obtain ⟨htx, hlink, hback, -, hnotes⟩ := h
  have hnote : noteAppears s (answered s f rest op v) = false := noteAppears_of_notes_eq hnotes
  have htx' : (answered s f rest op v).txU = s.txU := htx
  have hlink' : (answered s f rest op v).portU.link = s.portU.link := hlink
  have hback' : (answered s f rest op v).stores.back = s.stores.back := hback
  have hplaced : (answered s f rest op v).mgmt.outbox.isEmpty = false :=
    List.isEmpty_eq_false_iff.2 (List.append_ne_nil_of_right_ne_nil _ (List.cons_ne_nil _ _))
  unfold invokesU
  rw [hnote, htx', hlink', hback', hplaced]
  cases s.txU <;> cases s.portU.link <;> cases s.stores.back <;> simp

/-- What an owner answers where its effect may open or shut the gate: port D's arbiter is invoked for that alone. -/
structure AnswersAtGate (s : State) (a : Answer) (v : Verdict) : Prop where
  answer : AnswersWith s a v
  viewU : arbiterViewU v.state = arbiterViewU s
  gate : gateOpen v.state = gateOpen s → invokesD s v.state = false

theorem answersAtGate_refuse (s : State) (st : Status) :
    AnswersAtGate s (refuse (takeHead s) st) (refused st.code s) :=
  ⟨⟨rfl, rfl, rfl, .refl s⟩, rfl, fun _ => invokesD_of_view_eq rfl⟩

theorem conclude_answeredAtGate {s : State} {a : Answer} {v : Verdict} (h : AnswersAtGate s a v) (f : FrameBytes)
    (rest : List FrameBytes) (op : Byte) :
    conclude s (answered s f rest op v) = offered s (gateInvokes s (answered s f rest op v)) := by
  have hD : (if invokesD s (answered s f rest op v) then arbiterD (answered s f rest op v)
      else answered s f rest op v) = gateInvokes s (answered s f rest op v) := by
    unfold gateInvokes
    by_cases hgate : gateOpen v.state = gateOpen s
    · have hquiet : invokesD s (answered s f rest op v) = false := h.gate hgate
      have hsame : gateOpen s = gateOpen (answered s f rest op v) := hgate.symm
      rw [if_pos hsame, hquiet, if_neg Bool.false_ne_true]
    · have hmoved : gateOpen (answered s f rest op v) ≠ gateOpen s := hgate
      rw [if_neg hmoved.symm, if_pos (invokesD_of_gate hmoved)]
  unfold conclude offered
  dsimp only
  rw [hD, invokesU_answered h.viewU]
  cases s.mgmt.outbox <;> rfl

theorem execOp_atGate {s : State} {f : FrameBytes} {rest : List FrameBytes} {op : Byte} {args : List Byte} {o : Op}
    {owner : List Byte → State → Answer} {v : Verdict} (ha : Addressed s f) (hr : Request s f rest op args)
    (hop : Op.ofByte op = some o) (hlen : o.len = args.length + 1)
    (h : AnswersAtGate s (owner args (takeHead s)) v) :
    execOp o owner s = offered s (gateInvokes s (answered s f rest op v)) := by
  rw [execOp_conclude ha hr hop hlen h.answer, conclude_answeredAtGate h]

/-! ### HOLD (R96, R121) -/

/-- The hold stands, and the gate is shut; a standing window has not ended yet. -/
def heldFor (limit : Nat) (s : State) : State :=
  { s with
    plan :=
      { s.plan with
        mode := if s.plan.mode = .pending then .heldPending else .held
        holdLimit := limit
        holdCount := 0
        counters := { s.plan.counters with holds := s.plan.counters.holds + 1 } } }

theorem gateOpen_heldFor (limit : Nat) (s : State) : gateOpen (heldFor limit s) = false := by
  unfold gateOpen heldFor
  dsimp only
  split <;> rfl

theorem beginHold_eq_heldFor {s : State} (h : s.plan.mode.holds = false) (limit : Nat) :
    beginHold limit s = gateEnds s (heldFor limit s) := by
  have hmode : s.plan.mode.withHold true = if s.plan.mode = .pending then .heldPending else .held := by
    cases hm : s.plan.mode with
    | steady => rfl
    | pending => rfl
    | _ => rw [hm] at h; cases h
  unfold beginHold heldFor
  rw [← hmode]
  rfl

/-- The gate was open unless sync-closed is true, so that a standing window ends (R73, R82, R96). -/
theorem gateEnds_heldFor {s : State} (h : s.plan.mode.holds = false) (limit : Nat) :
    gateEnds s (heldFor limit s) =
      if closedBySync s then heldFor limit s else windowEnded (heldFor limit s) := by
  have hgate : gateOpen s = !syncClosed s.sync := by unfold gateOpen; rw [h]; rfl
  unfold gateEnds
  rw [gateOpen_heldFor, hgate, closedBySync_eq, endWindow_eq_windowEnded]
  cases syncClosed s.sync <;> rfl

theorem gateOpen_gateEnds (before after : State) : gateOpen (gateEnds before after) = gateOpen after := by
  have hmode := congrArg Prod.fst (controlView_gateEnds before after)
  have hmode' : (gateEnds before after).plan.mode = after.plan.mode := hmode
  have hsync : (gateEnds before after).sync = after.sync := by rw [gateEnds_eq]
  unfold gateOpen
  rw [hmode', hsync]

theorem hold_applies {s : State} (h : s.plan.mode.holds = false) (limit : Nat) :
    AnswersAtGate s (accept (beginHold limit (takeHead s)) [])
      { status := 0, result := [], state := gateEnds s (heldFor limit s) } := by
  refine ⟨⟨rfl, rfl, ?_, ?_⟩, ?_, fun hgate => ?_⟩
  · refine (beginHold_eq_heldFor (s := takeHead s) h limit).trans ?_
    show gateEnds (takeHead s) (takeHead (heldFor limit s)) = takeHead (gateEnds s (heldFor limit s))
    unfold gateEnds
    show (if gateOpen s && !gateOpen (heldFor limit s) then _ else _) = _
    split
    · exact endWindow_takeHead _
    · rfl
  · rw [gateEnds_eq]
    exact ⟨rfl, rfl, rfl, rfl⟩
  · rw [gateEnds_eq]
    rfl
  · rw [gateOpen_gateEnds] at hgate
    rcases gateEnds_cases s (heldFor limit s) with ⟨hopen, hshut, -⟩ | ⟨-, he⟩
    · rw [hopen, hshut] at hgate
      cases hgate
    · rw [he]
      exact invokesD_of_no_request rfl rfl rfl rfl rfl id hgate

theorem hold_answers (limit : Byte) (s : State) :
    AnswersAtGate s (holdOwner [limit] (takeHead s)) (holdVerdict limit s) := by
  have hlimit : arg [limit] 0 1 = limit.toNat := natBE_one limit
  unfold holdOwner holdVerdict
  rw [hlimit, holding_eq]
  show AnswersAtGate s (if s.plan.mode.holds then _ else if s.plan.resumeGuard < 2 then _ else _) _
  by_cases hholds : s.plan.mode.holds = true
  · rw [if_pos hholds, if_pos hholds]
    exact answersAtGate_refuse s .state
  · rw [if_neg hholds, if_neg hholds]
    by_cases hsoon : s.plan.resumeGuard < 2
    · rw [if_pos hsoon, if_pos hsoon]
      exact answersAtGate_refuse s .tooSoon
    · have hfree : s.plan.mode.holds = false := by simpa using hholds
      have happlies := hold_applies hfree limit.toNat
      rw [if_neg hsoon, if_neg hsoon]
      rw [gateEnds_heldFor hfree] at happlies
      exact happlies

/-! ### RESUME (R97, R122) -/

theorem resume_applies (s : State) {m : PlanMode} (hm : s.plan.mode.withHold false = m) :
    AnswersAtGate s (accept (endHold (takeHead s)) (bytesBE 4 s.timer.cycle.toNat ++ bytesBE 4 s.timer.offset))
      { status := 0, result := be4 s.timer.cycle.toNat ++ be4 s.timer.offset
        state :=
          { s with
            plan := { s.plan with mode := m, holdLimit := 0, holdCount := 0, resumeGuard := 0 }
            engine := { s.engine with resumeOffset := some s.timer.offset } } } := by
  subst hm
  refine ⟨⟨rfl, ?_, rfl, ⟨rfl, rfl, rfl, rfl⟩⟩, rfl, fun hgate => ?_⟩
  · rw [bytesBE_four, bytesBE_four]
    rfl
  · exact invokesD_of_no_request rfl rfl rfl rfl rfl id hgate

theorem resume_answers (s : State) : AnswersAtGate s (resumeOwner [] (takeHead s)) (resumeVerdict s) := by
  unfold resumeOwner resumeVerdict
  show AnswersAtGate s (if s.plan.mode.holds then
    accept (endHold (takeHead s)) (bytesBE 4 s.timer.cycle.toNat ++ bytesBE 4 s.timer.offset) else _) _
  cases hm : s.plan.mode with
  | steady => exact answersAtGate_refuse s .state
  | pending => exact answersAtGate_refuse s .state
  | held => exact resume_applies s (by rw [hm]; rfl)
  | heldPending => exact resume_applies s (by rw [hm]; rfl)

/-- Settles O45: beside the reply, only a change of the gate invokes an arbiter. -/
theorem holdAndResume : Obligations.HoldAndResume := fun s _ _ ha =>
  ⟨fun limit hr => congrArg Host.Outcome.next (execOp_atGate ha hr rfl rfl (hold_answers limit s)),
    fun hr => congrArg Host.Outcome.next (execOp_atGate ha hr rfl rfl (resume_answers s))⟩

end Sys2Proof.Plans
end

section
/-! PROOF. The restart as the reply to RESTART completes, and the settling of the obligations on it and on the NOTE frame
(R14, R18, R24, R33, R54, R99, R141, R146, R158). -/

namespace Sys2Proof.Link

open Sys2Proof.Machine Sys2Proof.Safety Sys2Proof.Claims Sys2Proof.Invariants

/-- Settles O21, by the bytes of the header and the payload of each kind. -/
theorem noteFrameLayout : Obligations.NoteFrameLayout := noteFrame_eq

/-! ### The blocks at a restart (R18, R24, R54, R141) -/

theorem restartPort_eq (x : PortState) : restartPort x = portRestarted x := by
  unfold restartPort portRestarted restartRx
  cases x.rx.state <;> rfl

theorem restartBuffer_eq (b : Buffer) : restartBuffer b = if b.state = .sending then b else {} := by
  unfold restartBuffer
  cases b.state <;> rfl

/-- What is emptied is emptied of every entry; LOCKED decides on VALID alone (R54). -/
theorem restartStream_eq (x : Stream) :
    restartStream x = { x with valid := if x.locked then x.valid else false, queue := [], counters := {} } := by
  unfold restartStream
  split <;> rfl

theorem restartTx_eq (s : State) (t : Option (Transmission SourceD)) : t.map (restartTx s) = txRestarted s t := by
  rcases t with _ | ⟨src, bytes, n⟩
  · rfl
  · cases src with
    | mark => rfl
    | pass x => rfl
    | release x attached =>
      cases attached with
      | none => rfl
      | some i =>
        show some (if (s.stream i).locked then _ else _) = if (s.stream i).locked then some _ else some _
        split <;> rfl

theorem startedQueue_eq (s : State) :
    startedQueue s.addressed .restart =
      if s.nodeAddr = 0 ∨ s.nodeAddr = 127 then [] else [newRecord (.started .restart) 0] := by
  have haddr : s.addressed = true ↔ ¬ (s.nodeAddr = 0 ∨ s.nodeAddr = 127) := by
    rw [addressed_iff, HasAddress, not_or]
  unfold startedQueue
  by_cases h : s.nodeAddr = 0 ∨ s.nodeAddr = 127
  · rw [if_pos h, if_neg fun ha => haddr.1 ha h]
  · rw [if_neg h, if_pos (haddr.2 h)]
    rfl

theorem restartValues_eq (s : State) : restartValues s = restarted s := by
  unfold restartValues restarted
  rw [restartPort_eq, restartPort_eq, restartTx_eq, startedQueue_eq, mapVector_eq_map, mapVector_eq_map,
    funext restartBuffer_eq, funext restartStream_eq]

/-- A restart zeroes the count that the completion of its reply has just made (R14, R171; log entry 9). -/
theorem restarted_idledU (s : State) : restarted (idledU s) = restarted s := rfl

theorem completeU_of_restart {t : Transmission SourceU} {s : State} {r : Reply} {q : List Reply}
    (hs : t.source = .reply) (ho : s.mgmt.outbox = r :: q) (hr : r.ofRestart = true) :
    completeU t s = restarted s := by
  have houtbox : (idledU s).mgmt.outbox = r :: q := ho
  unfold completeU
  rw [hs]
  show replyCompleted (idledU s) = _
  unfold replyCompleted
  rw [houtbox]
  dsimp only
  rw [if_pos hr, restartValues_eq, restarted_idledU]

/-! ### What follows a restart (R32, R99, R100) -/

theorem arbiterD_of_no_candidate {s : State} (hmark : s.stores.mark = none) (hrequest : s.engine.request = false)
    (hpass : s.stores.pass = []) : arbiterD s = s := by
  by_cases hidle : s.txD = none
  · cases hlink : s.portD.link with
    | down => exact arbiterD_of_busy (.inr hlink)
    | up => rw [arbiterD_of_no_mark hidle hlink hmark, tryRelease_of_no_request hrequest, tryPass, hpass]
  · exact arbiterD_of_busy (.inl hidle)

/-- Settles O18: a restart that closes a window or moves the gate invokes the D arbiter too, which has no candidate
left. -/
theorem restartTakesEffect : Obligations.RestartTakesEffect := by
  intro s t r q hrun ht h0 hs ho hr
  have hleft : ticksLeft .u s = some 0 := by simp [ticksLeft, ht, h0]
  have hU : invokesU s (restarted s) = true := by simp [invokesU, ht, restarted]
  have hD : arbiterD (restarted s) = restarted s := arbiterD_of_no_candidate rfl rfl rfl
  rw [exec_transmissionComplete hrun (endsWithWrap_of_due hleft)]
  show Host.Outcome.next (finishU s) = _
  rw [finishU_of_due ht h0, completeU_of_restart hs ho hr]
  unfold conclude
  rw [hD, hU, ite_self]
  rfl

end Sys2Proof.Link
end

section
/-! PROOF. The requests that have no owner's checks: a failing common check, RESTART, the replay and the ignoring, with the
step that each is taken by, and the settling of the obligations on them (R128 to R137, R140, R145). -/

namespace Sys2Proof.Requests

open Sys2Proof.Machine Sys2Proof.Safety Sys2Proof.Claims Sys2Proof.Link Sys2Proof.Invariants Sys2Proof.Cycles

/-! ### The OP codes (R130, R145) -/

/-- The request table names the requests in the order of their codes, with their steps and their LEN. -/
theorem requestTable_eq :
    requestTable.map (fun e => (requestRow e.1, e.2)) = Op.table.map fun o => (some (Row.op o), o.len) := rfl

theorem ofByte_code {k : Nat} (hk : k < 24) : Op.ofByte (BitVec.ofNat 8 (k + 1)) = Op.table[k]? := by
  have hcode : (BitVec.ofNat 8 (k + 1)).toNat = k + 1 := by
    rw [BitVec.toNat_ofNat]
    omega
  have hne : BitVec.ofNat 8 (k + 1) ≠ 0 := fun h => by
    rw [h] at hcode
    exact absurd hcode (Nat.succ_ne_zero k).symm
  rw [Op.ofByte, if_neg hne, hcode, Nat.add_sub_cancel]

/-- A row of the request table is that of the request its code names. -/
theorem op_of_requestTable {k : Nat} {c : Instr} {len : Nat} (h : requestTable[k]? = some (c, len)) :
    ∃ o, Op.ofByte (BitVec.ofNat 8 (k + 1)) = some o ∧ requestRow c = some (.op o) ∧ o.len = len := by
  have hk : k < 24 := (List.getElem?_eq_some_iff.1 h).1
  have hrow : (Op.table.map fun o => (some (Row.op o), o.len))[k]? = some (requestRow c, len) := by
    rw [← requestTable_eq, List.getElem?_map, h]
    rfl
  rw [List.getElem?_map, Option.map_eq_some_iff] at hrow
  obtain ⟨o, ho, he⟩ := hrow
  obtain ⟨hrow, hlen⟩ := Prod.mk.inj he
  exact ⟨o, (ofByte_code hk).trans ho, hrow.symm, hlen⟩

/-- The codes outside 0x01 to 0x18 name no request. -/
theorem ofByte_undefined {op : Byte} (h : op = 0 ∨ 0x18 < op.toNat) : Op.ofByte op = none := by
  unfold Op.ofByte
  rcases h with h | h
  · exact if_pos h
  · have hbeyond : Op.table.length ≤ op.toNat - 1 := by
      show 24 ≤ _
      omega
    rw [List.getElem?_eq_none hbeyond, ite_self]

/-- Of the codes, those of SWITCH, WITHDRAW, HOLD and RESUME alone name a request that broadcast executes (R136). -/
theorem code_of_byBroadcast {op : Byte} {o : Op} (hop : Op.ofByte op = some o) (h : o.byBroadcast = true) :
    op ∈ ([0x0D, 0x0E, 0x0F, 0x10] : List Byte) := by
  have hplace : ∀ i < Op.table.length, ∀ x ∈ Op.table[i]?, x.byBroadcast = true →
      i + 1 ∈ [0x0D, 0x0E, 0x0F, 0x10] := by decide
  unfold Op.ofByte at hop
  split at hop
  · cases hop
  · next hne =>
    have hpos : 0 < op.toNat := Nat.pos_of_ne_zero fun hz => hne (BitVec.eq_of_toNat_eq hz)
    have hcode := hplace _ (List.getElem?_eq_some_iff.1 hop).1 o hop h
    rw [Nat.sub_add_cancel hpos] at hcode
    have hmapped : ([0x0D, 0x0E, 0x0F, 0x10] : List Nat) = ([0x0D, 0x0E, 0x0F, 0x10] : List Byte).map BitVec.toNat := rfl
    rw [hmapped] at hcode
    exact (List.mem_map_of_injective BitVec.toNat_injective).1 hcode

/-! ### The step that takes a request (R130, R135 to R137) -/

theorem opOf_of_payload {f : FrameBytes} {op : Byte} {args : List Byte} (h : payloadOf f = op :: args) :
    opOf f = Op.ofByte op := by unfold opOf; rw [h]

theorem opByte_of_payload {f : FrameBytes} {op : Byte} {args : List Byte} (h : payloadOf f = op :: args) :
    opByte f = op := by unfold opByte; rw [h]; rfl

section
variable {s : State} {f : FrameBytes} {rest : List FrameBytes} {op : Byte} {args : List Byte}

/-- What waits behind the request taken (R129). -/
theorem input_tail_of_takes (ht : Takes s f rest) : s.mgmt.input.tail = rest := by rw [ht.head]; rfl

theorem isBroadcast_of_addressed (ha : Addressed s f) : isBroadcast f = false := decide_eq_false ha.dest

theorem cacheHit_of_addressed (ha : Addressed s f) : cacheHit s.mgmt f = false := by
  unfold cacheHit
  split
  · next e he => simpa using ha.fresh e he
  · rfl

theorem rowOf_undefined (ha : Addressed s f) (hop : opOf f = none) : rowOf s.mgmt f = .unknown := by
  unfold rowOf
  rw [isBroadcast_of_addressed ha, cacheHit_of_addressed ha, hop]
  rfl

theorem rowOf_copy {e : CacheEntry} (hdest : destOf f ≠ 127) (he : s.mgmt.cache = some e) (htag : e.tag = tagOf f)
    (hpayload : e.payload = payloadOf f) : rowOf s.mgmt f = .replay := by
  have hown : isBroadcast f = false := decide_eq_false hdest
  have hhit : cacheHit s.mgmt f = true := by simp [cacheHit, he, htag, hpayload]
  unfold rowOf
  rw [hown, hhit]
  rfl

/-- A broadcast request that is none of the four is ignored, one without an OP among them (R137). -/
theorem rowOf_ignored (m : Mgmt) (hdest : destOf f = 127)
    (hop : ∀ op args, payloadOf f = op :: args → op ∉ ([0x0D, 0x0E, 0x0F, 0x10] : List Byte)) :
    rowOf m f = .ignore := by
  have hcast : isBroadcast f = true := decide_eq_true hdest
  unfold rowOf
  rw [hcast, if_pos rfl]
  cases hpayload : payloadOf f with
  | nil => simp [opOf, hpayload]
  | cons op args =>
    rw [opOf_of_payload hpayload]
    cases ho : Op.ofByte op with
    | none => rfl
    | some o => exact if_neg fun hby => hop op args hpayload (code_of_byBroadcast ho hby)

/-- Every step of a request does nothing while the unit is not READY (R128, R140). -/
theorem exec_of_not_ready (h : s.mgmt.mode ≠ .ready) {c : Instr} (hc : c ∈ requestSteps) : exec c s = .next s := by
  obtain ⟨r, hr⟩ := Option.isSome_iff_exists.1 (requestRow_of_requestSteps c hc)
  rw [exec_of_requestRow hr]
  unfold takeRequest
  rw [nextRequest_of_not_ready h]

/-! ### Replies placed (R32, R128, R132) -/

/-- Replies placed with nothing else changed outside the management unit invoke the U transmitter arbiter where they come
into an empty outbox (R32, R100). -/
theorem conclude_placed (s : State) {m : Mgmt} {rs : List Reply} (hrs : rs ≠ [])
    (ho : m.outbox = s.mgmt.outbox ++ rs) :
    conclude s { s with mgmt := m } = offered s { s with mgmt := m } := by
  have hD : invokesD s { s with mgmt := m } = false := invokesD_of_view_eq rfl
  have hU : invokesU s { s with mgmt := m } = s.mgmt.outbox.isEmpty := by
    have hnote : noteAppears s { s with mgmt := m } = false := noteAppears_of_notes_eq rfl
    have hplaced : m.outbox.isEmpty = false := by simp [ho, hrs]
    unfold invokesU
    rw [hnote, hplaced]
    cases s.txU <;> cases s.portU.link <;> cases s.stores.back <;> simp
  unfold conclude offered
  rw [hD, hU]
  cases s.mgmt.outbox <;> rfl

/-! ### The common checks (R130) -/

/-- A failing check is answered in one reply frame, with the OP echo of the request, 0 where it has no OP. -/
theorem answerRequest_refuse (ht : Takes s f rest) (st : Status) :
    answerRequest f (refuse (takeHead s) st) = answered s f rest (opByte f) (refused st.code s) := by
  have hframes : replyFrames s.nodeAddr f (refuse (takeHead s) st) =
      [replyBytes s.nodeAddr (tagOf f) (opByte f) st.code []] :=
    congrArg (fun b => [b]) (replyFrame_eq _ _ _ _ _)
  have hplaced (c : Option CacheEntry) (r : Reply) :=
    settleUnit_placeReplies (m := { (countExecuted (takeHead s)).mgmt with cache := c }) ht.room ht.parts r
  show { countExecuted (takeHead s) with
      mgmt := settleUnit (placeReplies
        ((replyFrames s.nodeAddr f (refuse (takeHead s) st)).map fun b => { bytes := b, ofRestart := false })
        { (countExecuted (takeHead s)).mgmt with
          cache := some { tag := tagOf f, payload := payloadOf f,
                          replies := replyFrames s.nodeAddr f (refuse (takeHead s) st) } }) } = _
  rw [hframes, List.map_singleton, hplaced, ← input_tail_of_takes ht]
  rfl

/-- A request taken by a step that finds a common check failing. -/
theorem takeRequest_refused (ht : Takes s f rest) {r : Row} (hrow : rowOf s.mgmt f = r)
    {run : FrameBytes → State → State} {st : Status}
    (hrun : run f (takeHead s) = answerRequest f (refuse (takeHead s) st)) :
    takeRequest r run s = offered s (answered s f rest (opByte f) (refused st.code s)) := by
  rw [takeRequest_taken (nextRequest_of_takes ht) hrow, hrun, answerRequest_refuse ht,
    conclude_answered (v := refused st.code s) (.refl s)]

theorem exec_unknownRequest (ha : Addressed s f) (ht : Takes s f rest) (hop : opOf f = none) :
    exec .unknownRequest s = .next (offered s (answered s f rest (opByte f) (refused 12 s))) :=
  congrArg Host.Outcome.next (takeRequest_refused ht (rowOf_undefined ha hop) (st := .unknown) rfl)

theorem checked_of_wrong_length {o : Op} (h : lenOf f ≠ o.len) (owner : List Byte → State → Answer) :
    checked o owner f s = refuse s .length := if_neg h

/-- An addressed request with another LEN than its own comes to no owner. -/
theorem runOf_of_wrong_length {o : Op} (hown : isBroadcast f = false) (h : lenOf f ≠ o.len) :
    runOf (.op o) f s = answerRequest f (refuse s .length) := by
  have hrun (owner : List Byte → State → Answer) : runOp o owner f s = answerRequest f (refuse s .length) := by
    unfold runOp
    rw [hown, if_neg Bool.false_ne_true, checked_of_wrong_length h]
  cases o with
  | restart => exact if_neg h
  | _ => exact hrun _

end

/-- Settles O50: each request of the table is refused by its own step before its owner sees it. -/
theorem commonChecksRefuse : Obligations.CommonChecksRefuse := by
  intro s f rest ha
  refine ⟨fun op args hop hr => ?_, fun ht hnone => ?_, fun k c len args hk hlen hr => ?_⟩
  · rw [← opByte_of_payload hr.payload]
    exact exec_unknownRequest ha hr.takes ((opOf_of_payload hr.payload).trans (ofByte_undefined hop))
  · have hop : opOf f = none := by unfold opOf; rw [hnone]
    have hzero : opByte f = 0 := by unfold opByte; rw [hnone]; rfl
    rw [← hzero]
    exact exec_unknownRequest ha ht hop
  · obtain ⟨o, hop, hrow, rfl⟩ := op_of_requestTable hk
    rw [exec_of_requestRow hrow, ← opByte_of_payload hr.payload]
    exact congrArg Host.Outcome.next (takeRequest_refused hr.takes (rowOf_of_request ha hr hop) (st := .length)
      (runOf_of_wrong_length (isBroadcast_of_addressed ha) hlen))

/-- An answer that disturbs nothing leaves the management unit ready for its reply. -/
theorem AnswersAs.answersWith {s : State} {a : Answer} {v : Verdict} (h : AnswersAs s a v) : AnswersWith s a v := by
  obtain ⟨hstatus, hresults, hstate, hnode, hinput, hparts, hviewU, -⟩ := h
  simp only [arbiterViewU, Prod.mk.injEq] at hviewU
  obtain ⟨-, -, -, houtbox, -⟩ := hviewU
  exact ⟨hstatus, hresults, hstate, hnode, hinput, houtbox, hparts⟩

/-! ### RESTART (R140) -/

/-- One reply placed where the outbox has room (R132). -/
theorem placeReplies_single {m : Mgmt} (hroom : m.outbox.length < 2) (r : Reply) :
    placeReplies [r] m = { m with outbox := m.outbox ++ [r] } := by
  have hfits : [r].length ≤ Config.outboxCapacity - m.outbox.length := by
    show 1 ≤ 2 - m.outbox.length
    omega
  unfold placeReplies
  rw [List.take_of_length_le hfits, List.drop_of_length_le hfits, List.append_nil]

/-- Settles O49: RESTART is taken like any other request, and its reply placed like any other. -/
theorem restartAccepted : Obligations.RestartAccepted := by
  intro s f rest ha hr
  have hframe : replyFrame s.nodeAddr (tagOf f) (opByte f) .ok [] = replyBytes s.nodeAddr (tagOf f) 0x18 0 [] := by
    rw [replyFrame_eq, opByte_of_payload hr.payload]
    rfl
  have hrun : runRestart f (takeHead s) = beginRestart f (takeHead s) := if_pos hr.length
  have hplaced (c : Option CacheEntry) (r : Reply) :=
    placeReplies_single (m := { (countExecuted (takeHead s)).mgmt with cache := c }) hr.takes.room r
  refine congrArg Host.Outcome.next ?_
  rw [takeRequest_taken (nextRequest_of_takes hr.takes) (rowOf_of_request ha hr rfl), hrun,
    ← input_tail_of_takes hr.takes, ← hframe]
  refine Eq.trans (congrArg (conclude s) ?_) (conclude_placed s (List.cons_ne_nil _ []) rfl)
  unfold beginRestart
  dsimp only
  rw [hplaced]
  rfl

/-! ### The replay and the ignoring (R135, R137) -/

/-- `s` with the request gone from the input queue, the cached replies placed again, and the replay counted (R135). -/
def replayed (s : State) (rest : List FrameBytes) (replies : List Reply) : State :=
  { s with
    mgmt :=
      { s.mgmt with
        mode := if s.mgmt.outbox.length + replies.length < 2 then .ready else .stalled
        input := rest
        outbox := s.mgmt.outbox ++ replies.take (2 - s.mgmt.outbox.length)
        parts := replies.drop (2 - s.mgmt.outbox.length)
        counters := { s.mgmt.counters with replays := s.mgmt.counters.replays + 1 } } }

section
variable {s : State} {f : FrameBytes} {rest : List FrameBytes}

theorem replayRequest_eq (ht : Takes s f rest) {e : CacheEntry} (he : s.mgmt.cache = some e) :
    replayRequest (takeHead s) = replayed s rest (e.replies.map fun b => { bytes := b, ofRestart := false }) := by
  have hcached : (countMgmt (fun c => { c with replays := c.replays + 1 }) (takeHead s)).mgmt.cache = some e := he
  unfold replayRequest
  dsimp only
  rw [hcached, ← input_tail_of_takes ht]
  exact congrArg (fun m => ({ s with mgmt := m } : State))
    (settleUnit_placeAll
      (m := (countMgmt (fun c => { c with replays := c.replays + 1 }) (takeHead s)).mgmt) ht.room ht.parts _)

/-- Where the unit takes a request the outbox has room, so that one cached frame at least is placed. -/
theorem conclude_replayed (ht : Takes s f rest) {replies : List Reply} (hne : replies ≠ []) :
    conclude s (replayed s rest replies) = offered s (replayed s rest replies) := by
  have hroom := ht.room
  have hplaced : replies.take (2 - s.mgmt.outbox.length) ≠ [] := by
    rw [Ne, List.take_eq_nil_iff, not_or]
    exact ⟨by omega, hne⟩
  exact conclude_placed s hplaced rfl

theorem exec_requestReplay (ht : Takes s f rest) {e : CacheEntry} (hrow : rowOf s.mgmt f = .replay)
    (he : s.mgmt.cache = some e) (hne : e.replies ≠ []) :
    exec .requestReplay s =
      .next (offered s (replayed s rest (e.replies.map fun b => { bytes := b, ofRestart := false }))) := by
  refine congrArg Host.Outcome.next ?_
  rw [takeRequest_taken (nextRequest_of_takes ht) hrow, replayRequest_eq ht he,
    conclude_replayed ht (by simpa using hne)]

/-- What is ignored leaves all that the arbiters see (R137). -/
theorem exec_broadcastIgnore (ht : Takes s f rest) (hrow : rowOf s.mgmt f = .ignore) :
    exec .broadcastIgnore s =
      .next
        { s with
          mgmt :=
            { s.mgmt with
              input := rest
              counters := { s.mgmt.counters with broadcastIgnored := s.mgmt.counters.broadcastIgnored + 1 } } } := by
  refine congrArg Host.Outcome.next ?_
  rw [takeRequest_taken (nextRequest_of_takes ht) hrow, ← input_tail_of_takes ht]
  exact conclude_of_arbiterView_eq rfl

end

/-- Settles O51, by the row of the request at the head of the queue, and by there being none for a unit that is not
READY. -/
theorem replayAndIgnore : Obligations.ReplayAndIgnore := by
  refine ⟨fun s hmode c hc => exec_of_not_ready ?_ hc, fun s f rest ht => ⟨fun e hdest he htag hpayload hne => ?_,
    fun hdest hop => exec_broadcastIgnore ht (rowOf_ignored s.mgmt hdest hop)⟩⟩
  · rcases hmode with h | h <;> rw [h] <;> nofun
  · exact exec_requestReplay ht (rowOf_copy hdest he htag hpayload) he hne

end Sys2Proof.Requests
end

section
/-! PROOF. The four requests that broadcast executes: how the unit takes them, what it leaves in place of a reply, and the
settling of the obligation on them (R113, R120 to R122, R129, R130, R136). -/

namespace Sys2Proof.Plans

open Sys2Proof.Machine Sys2Proof.Safety Sys2Proof.Claims Sys2Proof.Link Sys2Proof.Invariants Sys2Proof.Cycles
  Sys2Proof.Requests

/-- Only OK has the code 0 (R131). -/
theorem status_ok_iff (st : Status) : st = .ok ↔ st.code = 0 := by cases st <;> decide

/-- The steps of the broadcast table are those of requests that broadcast executes, with their OP and LEN (R136). -/
theorem op_of_broadcastTable {c : Instr} {op : Byte} {len : Nat} (h : (c, op, len) ∈ broadcastTable) :
    ∃ o, Op.ofByte op = some o ∧ o.byBroadcast = true ∧ o.len = len ∧
      ∀ s, exec c s = .next (execOp o (ownerOf o) s) := by
  simp only [broadcastTable, List.mem_cons, Prod.mk.injEq, List.not_mem_nil, or_false] at h
  obtain ⟨rfl, rfl, rfl⟩ | ⟨rfl, rfl, rfl⟩ | ⟨rfl, rfl, rfl⟩ | ⟨rfl, rfl, rfl⟩ := h
  · exact ⟨.switch, rfl, rfl, rfl, fun _ => rfl⟩
  · exact ⟨.withdraw, rfl, rfl, rfl, fun _ => rfl⟩
  · exact ⟨.hold, rfl, rfl, rfl, fun _ => rfl⟩
  · exact ⟨.resume, rfl, rfl, rfl, fun _ => rfl⟩

section
variable {s : State} {f : FrameBytes} {rest : List FrameBytes} {op : Byte} {args : List Byte} {o : Op}
  {owner : List Byte → State → Answer} {v : Verdict}

/-- One of the four by broadcast is its own step's, whatever the cache holds (R136). -/
theorem rowOf_of_broadcast (m : Mgmt) (hdest : destOf f = 127) (hop : opOf f = some o) (hby : o.byBroadcast = true) :
    rowOf m f = .op o := by
  have hcast : isBroadcast f = true := decide_eq_true hdest
  unfold rowOf
  rw [hcast, if_pos rfl, hop]
  exact if_pos hby

/-- What is left in place of a reply: the count of the execution, and the report of a refusal (R129, R136). -/
theorem answerBroadcast_eq (hr : Request s f rest op args) {a : Answer} (h : AnswersWith s a v) :
    answerBroadcast f a = broadcastAnswered rest op v := by
  obtain ⟨hstatus, -, hstate, -, hinput, -, -⟩ := h
  unfold answerBroadcast broadcastAnswered
  dsimp only
  rw [opByte_of_payload hr.payload, ← hstatus, hstate,
    ← show v.state.mgmt.input.tail = rest by rw [hinput, input_tail_of_takes hr.takes]]
  simp only [status_ok_iff]
  rfl

/-- One of the four by broadcast is executed by its owner after the LENGTH check, and the arbiters follow (R32, R100,
R130, R136). -/
theorem execOp_broadcast (hdest : destOf f = 127) (hr : Request s f rest op args) (hop : Op.ofByte op = some o)
    (hby : o.byBroadcast = true) (h : AnswersWith s (checked o owner f (takeHead s)) v) :
    execOp o owner s = conclude s (broadcastAnswered rest op v) := by
  have hcast : isBroadcast f = true := decide_eq_true hdest
  have hrow : rowOf s.mgmt f = .op o :=
    rowOf_of_broadcast s.mgmt hdest ((opOf_of_payload hr.payload).trans hop) hby
  unfold execOp
  rw [takeRequest_taken (nextRequest_of_takes hr.takes) hrow]
  unfold runOp
  rw [hcast, if_pos rfl, answerBroadcast_eq hr h]

theorem checked_of_request (hr : Request s f rest op args) (hlen : o.len = args.length + 1) (t : State) :
    checked o owner f t = owner args t := by
  have hargs : argsOf f = args := by unfold argsOf; rw [hr.payload]; rfl
  unfold checked
  rw [if_pos (hr.length.trans hlen.symm), hargs]

/-- By broadcast a request of the right LEN has the verdict it has when addressed (R136). -/
theorem execOp_broadcast_verdict (hdest : destOf f = 127) (hr : Request s f rest op args)
    (hop : Op.ofByte op = some o) (hby : o.byBroadcast = true) (hlen : o.len = args.length + 1)
    (h : AnswersWith s (owner args (takeHead s)) v) :
    execOp o owner s = conclude s (broadcastAnswered rest op v) :=
  execOp_broadcast hdest hr hop hby (by rwa [checked_of_request hr hlen])

end

/-- Settles O52, by the owners' answers to the addressed requests. -/
theorem broadcastExecutesFour : Obligations.BroadcastExecutesFour := by
  intro s f rest hdest
  refine ⟨fun mode n3 n2 n1 n0 hr => ?_, fun hr => ?_, fun limit hr => ?_, fun hr => ?_,
    fun c op len args hc hlen hr => ?_⟩
  · exact congrArg Host.Outcome.next (execOp_broadcast_verdict hdest hr rfl rfl rfl
      (switch_answers mode n3 n2 n1 n0 s).answersWith)
  · exact congrArg Host.Outcome.next (execOp_broadcast_verdict hdest hr rfl rfl rfl (withdraw_answers s).answersWith)
  · exact congrArg Host.Outcome.next (execOp_broadcast_verdict hdest hr rfl rfl rfl (hold_answers limit s).answer)
  · exact congrArg Host.Outcome.next (execOp_broadcast_verdict hdest hr rfl rfl rfl (resume_answers s).answer)
  · obtain ⟨o, hop, hby, rfl, hexec⟩ := op_of_broadcastTable hc
    rw [hexec]
    refine congrArg Host.Outcome.next (execOp_broadcast hdest hr hop hby ?_)
    rw [checked_of_wrong_length hlen]
    exact (answersAs_refuse s .length).answersWith

end Sys2Proof.Plans
end

section
/-! PROOF. What the note unit does with an occurrence, with its head and with an acknowledged record, and the settling
of the obligation on the recording of an occurrence (R142, R148, R151, R153 to R155, R160, R161). -/

namespace Sys2Proof.NoteQueue

open Sys2Proof.Machine Sys2Proof.Safety Sys2Proof.Claims Sys2Proof.Link

/-! ### An occurrence recorded (R153, R154) -/

/-- An occurrence folds into a record that takes it, is appended where there is room, or is lost. -/
theorem recordOccurrence_outcomes (o : Occurrence) (c : Cycle) (n : Notes) :
    (∃ pre r post, n.queue = pre ++ r :: post ∧ takesOccurrence o r = true ∧
      recordOccurrence o c n = { n with queue := pre ++ foldInto o c r :: post }) ∨
    n.queue.length < 16 ∧ recordOccurrence o c n = { n with queue := n.queue ++ [freshRecord o c] } ∨
    16 ≤ n.queue.length ∧
      recordOccurrence o c n =
        { n with
          tally := min 65535 (n.tally + 1)
          counters := { n.counters with notesLost := n.counters.notesLost + 1 } } := by
  rcases recordOccurrence_cases o c n with ⟨q, hq, he⟩ | he <;> rw [he]
  · obtain ⟨pre, r, post, hsplit, -, htakes, rfl⟩ := coalesceInto_some hq
    exact .inl ⟨pre, r, post, hsplit, htakes, rfl⟩
  · refine .inr ?_
    unfold appendOrLose
    split
    · rename_i hroom; exact .inl ⟨hroom, rfl⟩
    · rename_i hfull; exact .inr ⟨Nat.le_of_not_lt hfull, rfl⟩

/-- A record takes an occurrence of its own KIND and STREAM until it is first sent. -/
theorem takesOccurrence_iff {o : Occurrence} {r : NoteRecord} :
    takesOccurrence o r = true ↔ r.attempts = 0 ∧ r.occ.kind = o.kind ∧ r.occ.stream = o.stream := by
  simp [takesOccurrence, and_assoc]

theorem coalesces_iff (o : Occurrence) : o.coalesces = true ↔ o.kind ∈ [1, 2, 3, 4, 5, 8, 10, 12] := by
  cases o <;> simp [Occurrence.coalesces, Occurrence.kind]

/-- The occurrence folds into the first record that takes it. -/
theorem coalesceInto_append {o : Occurrence} (c : Cycle) {pre : List NoteRecord} {r : NoteRecord}
    (hpre : ∀ x ∈ pre, takesOccurrence o x = false) (hr : takesOccurrence o r = true) (post : List NoteRecord) :
    coalesceInto o c (pre ++ r :: post) = some (pre ++ foldInto o c r :: post) := by
  induction pre with
  | nil => exact if_pos hr
  | cons x pre ih =>
    have hx : takesOccurrence o x = false := hpre x List.mem_cons_self
    rw [List.cons_append, coalesceInto, hx, if_neg Bool.false_ne_true,
      ih fun y hy => hpre y (List.mem_cons_of_mem x hy)]
    rfl

theorem recordOccurrence_folds {o : Occurrence} (c : Cycle) {n : Notes} {pre post : List NoteRecord} {r : NoteRecord}
    (ho : o.coalesces = true) (hq : n.queue = pre ++ r :: post) (hpre : ∀ x ∈ pre, takesOccurrence o x = false)
    (hr : takesOccurrence o r = true) :
    recordOccurrence o c n = { n with queue := pre ++ foldInto o c r :: post } := by
  unfold recordOccurrence
  rw [if_pos ho, hq, coalesceInto_append c hpre hr]

/-- Where nothing folds, the occurrence is appended or lost. -/
theorem recordOccurrence_of_no_fold {o : Occurrence} (c : Cycle) {n : Notes}
    (h : o.coalesces = true → ∀ x ∈ n.queue, takesOccurrence o x = false) :
    recordOccurrence o c n = appendOrLose o c n := by
  unfold recordOccurrence
  cases ho : o.coalesces with
  | false => rfl
  | true => rw [if_pos rfl, coalesceInto_none.2 (h ho)]

/-! ### The report of an occurrence (R142, R151) -/

theorem enabled_iff (mask : BitVec 12) (o : Occurrence) :
    o.enabled mask = true ↔ 12 < o.kind ∨ mask.getLsbD (o.kind - 1) = true := by
  simp [Occurrence.enabled]

theorem report_of_recorded {s : State} {o : Occurrence} (ha : HasAddress s)
    (he : 12 < o.kind ∨ s.notes.mask.getLsbD (o.kind - 1) = true) :
    report o s = { s with notes := recordOccurrence o s.timer.cycle s.notes } :=
  if_pos (by rw [(addressed_iff s).2 ha, (enabled_iff _ o).2 he]; rfl)

theorem report_of_traceless {s : State} {o : Occurrence}
    (h : ¬ HasAddress s ∨ o.kind ≤ 12 ∧ s.notes.mask.getLsbD (o.kind - 1) = false) : report o s = s := by
  refine if_neg fun hc => ?_
  obtain ⟨ha, he⟩ := Bool.and_eq_true_iff.1 hc
  rcases h with h | ⟨hkind, hmask⟩
  · exact h ((addressed_iff s).1 ha)
  · rcases (enabled_iff _ o).1 he with h12 | hset
    · exact absurd h12 (Nat.not_lt.2 hkind)
    · rw [hmask] at hset; cases hset

/-- Settles O20, by where the occurrence folds, if it does. -/
theorem occurrenceRecorded : Obligations.OccurrenceRecorded := by
  intro s o
  refine ⟨report_of_traceless, fun ha he => ?_⟩
  rw [report_of_recorded ha he]
  have hnofold : (∀ x ∈ s.notes.queue, ¬ (o.kind ∈ [1, 2, 3, 4, 5, 8, 10, 12] ∧ x.attempts = 0 ∧
      x.occ.kind = o.kind ∧ x.occ.stream = o.stream)) →
      recordOccurrence o s.timer.cycle s.notes = appendOrLose o s.timer.cycle s.notes := fun hnone =>
    recordOccurrence_of_no_fold _ fun ho x hx => Bool.eq_false_iff.2 fun ht =>
      hnone x hx ⟨(coalesces_iff o).1 ho, takesOccurrence_iff.1 ht⟩
  refine ⟨fun pre post r hq hpre ⟨hkind, htakes⟩ => ?_, fun hnone hroom => ?_, fun hnone hfull => ?_⟩
  · rw [recordOccurrence_folds _ ((coalesces_iff o).2 hkind) hq (fun x hx => Bool.eq_false_iff.2 fun ht =>
      hpre x hx ⟨hkind, takesOccurrence_iff.1 ht⟩) (takesOccurrence_iff.2 htakes)]
    rfl
  · rw [hnofold hnone]
    exact congrArg (fun n => { s with notes := n }) (if_pos hroom)
  · have htally : min 65535 (s.notes.tally + 1) = if s.notes.tally < 65535 then s.notes.tally + 1 else 65535 := by
      split <;> omega
    rw [hnofold hnone, ← htally]
    exact congrArg (fun n => { s with notes := n }) (if_neg (Nat.not_lt.2 hfull))

/-! ### The head (R158 to R160) -/

theorem noteOffered_some {n : Notes} {r : NoteRecord} (h : noteOffered n = some r) :
    n.queue = r :: n.queue.tail ∧ r.state = .waiting := by
  unfold noteOffered at h
  split at h
  · rename_i x q hq
    split at h
    · rename_i hw
      cases h
      exact ⟨by rw [hq]; rfl, hw⟩
    · cases h
  · cases h

/-- Below RETRY a head AWAITING_ACK waits on (R160). -/
theorem notesAct_waits {n : Notes} {r : NoteRecord} {q : List NoteRecord} (hq : n.queue = r :: q)
    (hr : r.state = .awaitingAck) (hw : r.wait + 1 < n.retry) (c : Cycle) :
    notesAct c n = { n with queue := { r with wait := r.wait + 1 } :: q } := by
  have hin : timesOut n r = false := by simp [timesOut, hr, hw]
  unfold notesAct
  rw [hq]
  dsimp only
  rw [hin, if_neg Bool.false_ne_true, if_pos hr]

/-- At RETRY a head sent fewer than three times is WAITING again (R160). -/
theorem notesAct_offers {n : Notes} {r : NoteRecord} {q : List NoteRecord} (hq : n.queue = r :: q)
    (hr : r.state = .awaitingAck) (hw : n.retry ≤ r.wait + 1) (ha : r.attempts < 3) (c : Cycle) :
    notesAct c n = { n with queue := { r with state := .waiting, wait := r.wait + 1 } :: q } := by
  have hout : timesOut n r = true := by simp [timesOut, hr, hw]
  unfold notesAct
  rw [hq]
  dsimp only
  rw [hout, if_pos rfl, if_pos ha]

/-- At RETRY a head sent three times is abandoned (R160). -/
theorem notesAct_abandons {n : Notes} {r : NoteRecord} {q : List NoteRecord} (hq : n.queue = r :: q)
    (hr : r.state = .awaitingAck) (hw : n.retry ≤ r.wait + 1) (ha : 3 ≤ r.attempts) (c : Cycle) :
    notesAct c n =
      headLeaves c { n with counters := { n.counters with notesAbandoned := n.counters.notesAbandoned + 1 } } := by
  have hout : timesOut n r = true := by simp [timesOut, hr, hw]
  unfold notesAct
  rw [hq]
  dsimp only
  rw [hout, if_pos rfl, if_neg (Nat.not_lt.2 ha)]

/-- A wrap changes nothing of a note unit whose head awaits no acknowledgement (R160). -/
theorem notesAct_of_not_awaiting {n : Notes} (h : ∀ r q, n.queue = r :: q → r.state ≠ .awaitingAck) (c : Cycle) :
    notesAct c n = n := by
  unfold notesAct
  split
  · rename_i r q hq
    have hin : timesOut n r = false := by simp [timesOut, h r q hq]
    rw [hin, if_neg Bool.false_ne_true, if_neg (h r q hq)]
  · rfl

theorem headLeaves_counters (c : Cycle) (n : Notes) : (headLeaves c n).counters = n.counters := by
  unfold headLeaves afterLeaving
  split <;> rfl

theorem headLeaves_retry (c : Cycle) (n : Notes) : (headLeaves c n).retry = n.retry := by
  unfold headLeaves afterLeaving
  split <;> rfl

/-- The head's leaving, in the words of the statements (R155). -/
theorem headLeaves_eq_headGone {n : Notes} (h : n.queue.length ≤ 16) (c : Cycle) : headLeaves c n = headGone c n := by
  have hfull : (decide (Config.noteCapacity ≤ n.queue.length) && decide (0 < n.tally)) = true ↔
      n.queue.length = 16 ∧ 0 < n.tally := by
    rw [Bool.and_eq_true_iff, decide_eq_true_iff, decide_eq_true_iff]
    exact and_congr_left fun _ => ⟨fun hc => Nat.le_antisymm h hc, fun hc => hc.ge⟩
  unfold headLeaves afterLeaving headGone
  dsimp only
  by_cases hc : n.queue.length = 16 ∧ 0 < n.tally
  · rw [if_pos (hfull.2 hc), if_pos hc]; rfl
  · rw [if_neg (mt hfull.1 hc), if_neg hc]

/-- An acknowledgement of the head is the head's leaving (R155, R161). -/
theorem ackLeaves_of_head {n : Notes} {r : NoteRecord} {q : List NoteRecord} {seq : BitVec 8} (hq : n.queue = r :: q)
    (hseq : r.seq = some seq) (c : Cycle) : ackLeaves seq c n = headLeaves c n := by
  have herase : (n.queue.eraseP fun x => x.seq == some seq) = n.queue.tail := by
    rw [hq]
    exact List.eraseP_cons_of_pos (by simp [hseq])
  unfold ackLeaves headLeaves
  rw [herase]

end Sys2Proof.NoteQueue
end

section
/-! PROOF. Laws of the note unit that occurrences and grants keep: the events of the lines and of the release engine
keep them, and a wrap changes them where the note unit acts (R31, R44, R56, R87, R92, R150, R156, R158, R160). -/

namespace Sys2Proof.NoteQueue

open Sys2Proof.Machine Sys2Proof.Safety Sys2Proof.Claims Sys2Proof.Link Sys2Proof.Invariants Sys2Proof.Wraps

/-- A law that looks at the note unit alone, and at whether port U's transmitter is IDLE, and that a recorded occurrence
and the grant of a note keep. A transmitter that becomes BUSY does not break it. -/
structure KeptOnNotes (I : State → Prop) : Prop where
  same : ∀ {s t}, I s → t.notes = s.notes → (t.txU = none → s.txU = none) → I t
  record : ∀ {s} o c, I s → I { s with notes := recordOccurrence o c s.notes }
  grant : ∀ {s r q}, s.txU = none → s.notes.queue = r :: q → r.state = .waiting → I s →
    I { s with notes := notesGranted s.notes r q }

theorem KeptOnNotes.and {I J : State → Prop} (h : KeptOnNotes I) (k : KeptOnNotes J) :
    KeptOnNotes fun s => I s ∧ J s where
  same hs hn hu := ⟨h.same hs.1 hn hu, k.same hs.2 hn hu⟩
  record o c hs := ⟨h.record o c hs.1, k.record o c hs.2⟩
  grant hu hq hw hs := ⟨h.grant hu hq hw hs.1, k.grant hu hq hw hs.2⟩

namespace KeptOnNotes

section

variable {I : State → Prop} (h : KeptOnNotes I) {s : State}
include h

/-! ### Occurrences and decisions -/

theorem report (o : Occurrence) (hs : I s) : I (report o s) := by
  rw [report_eq]
  rcases report_notes o s with he | he <;> rw [he]
  · exact hs
  · exact h.record o _ hs

theorem reportTimes (n : Nat) (o : Occurrence) (hs : I s) : I (reportTimes n o s) :=
  reportTimes_keeps (fun o hu => h.report o hu) n o hs

theorem arbiterU (hs : I s) : I (arbiterU s) := by
  rcases arbiterU_cases s with he | ⟨hidle, ⟨b, q, -, he⟩ | ⟨r, he⟩ | ⟨r, hr, he⟩⟩ <;> rw [he]
  · exact hs
  · exact h.same hs rfl (fun hn => by cases hn)
  · exact h.same hs rfl (fun hn => by cases hn)
  · obtain ⟨hq, hw⟩ := noteOffered_some hr
    exact h.same (h.grant hidle hq hw hs) rfl (fun hn => by cases hn)

theorem arbiterD (hs : I s) : I (arbiterD s) := by
  rw [arbiterD_eq]; exact h.same hs rfl id

theorem decideU (before : State) (hs : I s) : I (decideU before s) := by
  rcases decideU_cases before s with ⟨-, he⟩ | ⟨-, he⟩ <;> rw [he]
  · exact h.arbiterU hs
  · exact hs

theorem conclude (before : State) (hs : I s) : I (conclude before s) := by
  have hD : I (if invokesD before s then Machine.arbiterD s else s) := by
    split
    · exact h.arbiterD hs
    · exact hs
  unfold Machine.conclude
  dsimp only
  split
  · exact h.arbiterU hD
  · exact hD

/-! ### The lines and the release engine -/

theorem admitFrame (i : StreamId) (b : BufId) (hs : I s) : I (admitFrame i b s) := by
  have hraise : ∀ {t}, I t → I (raiseFor i t) := fun ht => by rw [raiseFor_eq]; exact h.same ht rfl id
  have hsupersede : ∀ {t}, I t → I (supersedeHead i t) := by
    intro t ht
    unfold supersedeHead
    split
    · exact h.report _ (h.same ht rfl id)
    · exact ht
  have hcounted : I (countStream i (fun c => { c with arrived := c.arrived + 1 }) s) := h.same hs rfl id
  unfold Machine.admitFrame
  dsimp only
  split
  · exact hraise (h.same hs rfl id)
  · split
    · exact hraise (h.same (hsupersede hcounted) rfl id)
    · exact h.report _ (h.same hcounted rfl id)

theorem deliverMark (hs : I s) : I (deliverMark s) := by
  have hstore : ∀ {t} m, I t → I (storeMark m t) := by
    intro t m ht
    unfold storeMark
    dsimp only
    split <;> exact h.same ht rfl id
  refine hstore _ ?_
  unfold captureMark
  dsimp only
  split
  · exact h.report _ (h.same hs rfl id)
  · exact h.same hs rfl id

theorem offerRequest (hs : I s) : I (offerRequest s) := by
  unfold Machine.offerRequest
  dsimp only
  split
  · exact h.same hs rfl id
  · exact h.report _ (h.same hs rfl id)

/-- The events of a line keep it. -/
theorem lines : KeptOnLines I where
  port p x hs := by cases p <;> exact h.same hs rfl id
  report o hs := h.report o hs
  buffers _ _ _ hs := h.same hs rfl id
  counters _ hs := h.same hs rfl id
  pass b hs := by unfold passAppend; split <;> exact h.same hs rfl id
  back b hs := by unfold backAppend; split <;> exact h.same hs rfl id
  admission b _ hs := h.admitFrame _ b hs
  mark hs := h.deliverMark hs
  offer hs := h.offerRequest hs

theorem reportSync (old : SyncMode) (hs : I s) : I (reportSync old s) := by
  unfold Machine.reportSync
  split
  · exact hs
  · exact h.report _ hs

theorem gateEnds (before : State) (hs : I s) : I (gateEnds before s) := by
  rw [gateEnds_eq]; exact h.same hs rfl id

theorem closeWindow (hs : I s) : I (closeWindow s) := by
  have hmissed : I (missedCheck s) := by
    unfold missedCheck
    split
    · split
      · exact h.report _ (h.same hs rfl id)
      · exact hs
    · exact hs
  unfold Machine.closeWindow
  rcases endWindow_eq (missedCheck s) with ⟨-, he⟩ | ⟨w, -, he⟩ <;> rw [he]
  · exact hmissed
  · exact h.same hmissed rfl id

theorem takeSlot (hs : I s) : I (takeSlot s) := by
  rw [takeSlot_eq]; exact h.same hs rfl id

theorem engineEvent (hs : I s) : I (engineEvent s) :=
  engineEvent_keeps (fun hs => h.closeWindow hs) (fun hs => h.takeSlot hs) hs

theorem planAct (k : WrapPlan) (hs : I s) : I (planAct k s) := by
  unfold Machine.planAct
  split
  · exact h.report _ (h.same hs rfl id)
  · dsimp only
    split
    · exact h.report _ (h.same hs rfl id)
    · exact h.same hs rfl id

end

/-! ### A wrap, before and after the note unit's action (R56, R156) -/

section

variable {I J : State → Prop} (h : KeptOnNotes I) (k : KeptOnNotes J) {s : State}
include h k

/-- The ageing of an entry does to the note unit what its reports do. -/
theorem ageStream (i : StreamId) {reports : Nat → State → State} (hr : ∀ n {t}, I t → J (reports n t)) (hs : I s) :
    J (ageStream i reports s) := by
  rcases ageStream_cases i reports s with he | ⟨-, n, c, he⟩ <;> rw [he]
  · exact hr 0 hs
  · rw [withdrawIfEmpty_eq]
    refine k.same (hr n ?_) rfl id
    rw [freeBufs_eq]
    exact h.same hs rfl id

theorem reportAmid (i : StreamId) (m : Nat) {amid : State → State} (ha : ∀ {t}, I t → J (amid t)) (n : Nat) (hs : I s) :
    J (reportAmid i m amid n s) :=
  k.reportTimes _ _ (ha (h.reportTimes _ _ hs))

/-- The element of an order in which the note unit acts. -/
theorem wrapAct_notes (hact : ∀ {t}, I t → J (noteWait t)) (before : State) (w : WrapPlan) {a : WrapAct}
    (ha : .notes ∈ a.blocks) (hs : I s) : J (wrapAct before w a s) := by
  cases a with
  | notes => exact hact hs
  | ageAmid i n acts grants =>
    cases acts with
    | false => simp [WrapAct.blocks] at ha
    | true =>
      refine h.ageStream k i (fun m _ ht => h.reportAmid k i n (fun hu => ?_) m ht) hs
      cases grants with
      | false => exact hact hu
      | true => exact k.decideU before (hact hu)
  | _ => simp [WrapAct.blocks] at ha

omit k in
/-- Any other element of an order. -/
theorem wrapAct_of_not_notes (before : State) (w : WrapPlan) {a : WrapAct} (ha : .notes ∉ a.blocks) (hs : I s) :
    I (wrapAct before w a s) := by
  cases a with
  | sync => exact h.gateEnds _ (h.reportSync _ (h.same hs rfl id))
  | plan => exact h.planAct w hs
  | close => exact h.closeWindow hs
  | age i => exact h.ageStream h i (fun n _ ht => h.reportTimes n _ ht) hs
  | notes => exact absurd (List.mem_singleton_self _) ha
  | grantU => exact h.decideU before hs
  | ageAmid i n acts grants =>
    cases acts with
    | true => simp [WrapAct.blocks] at ha
    | false =>
      refine h.ageStream h i (fun m _ ht => h.reportAmid h i n (fun hu => ?_) m ht) hs
      cases grants with
      | false => exact hu
      | true => exact h.decideU before hu
  | unit => exact hs

/-- The blocks' actions and the arbiters' decisions at a wrap take a law to the one that the note unit's action makes of
it, wherever in the order that action stands. -/
theorem newCycle (hact : ∀ {t}, I t → J (noteWait t)) (order : List WrapAct) (hs : I s) : J (newCycle order s) := by
  obtain ⟨pre, a, post, hsplit, ha, hpre, hpost⟩ := fullOrder_split order (b := .notes) (by simp [defaultOrder])
  have hbefore : I (acted s (wrapPlan s) pre (beginCycle (wrapPlan s) s)) :=
    acted_keeps (fun x hx _ ht => h.wrapAct_of_not_notes s _ (hpre x hx) ht) (h.same hs rfl id)
  have hafter : J (acted s (wrapPlan s) (fullOrder order defaultOrder) (beginCycle (wrapPlan s) s)) := by
    rw [hsplit, acted_append]
    exact acted_keeps (fun x hx _ ht => k.wrapAct_of_not_notes s _ (hpost x hx) ht)
      (h.wrapAct_notes k hact s _ ha hbefore)
  have hblocks : J (wrapBlocks order s) := by
    rw [wrapBlocks_eq]
    exact k.same hafter rfl id
  exact k.decideU s (k.arbiterD hblocks)

/-- So does the whole wrap: the take of a slot at OPEN 0 is no matter of the note unit's (R87). -/
theorem wrapEvent (hact : ∀ {t}, I t → J (noteWait t)) (order : List WrapAct) (hs : I s) : J (wrapEvent order s) := by
  have hnew := h.newCycle k hact order hs
  rcases wrapEvent_cases order s with he | ⟨-, he⟩ <;> rw [he]
  · exact hnew
  · exact k.conclude _ (k.takeSlot hnew)

end

end KeptOnNotes

end Sys2Proof.NoteQueue
end

section
/-! PROOF. The laws of the note queue and the lost tally as an invariant of the running part, and the settling of the
obligation on them (R148, R149, R153 to R155, R158 to R161). -/

namespace Sys2Proof.NoteQueue

open Sys2Proof.Machine Sys2Proof.Safety Sys2Proof.Claims Sys2Proof.Link Sys2Proof.Invariants

/-! ### The order of the queue (R148, R149) -/

/-- A record that has never been sent, with a COUNT within its bounds. -/
structure Unsent (r : NoteRecord) : Prop where
  never : NeverSent r
  count : 1 ≤ r.count ∧ r.count ≤ 255

/-- What the oldest record may be. -/
structure Oldest (r : NoteRecord) : Prop where
  sent : NeverSent r ∨ 1 ≤ r.attempts ∧ r.attempts ≤ 3 ∧ r.seq.isSome = true
  waiting : r.state = .waiting → r.attempts < 3
  count : 1 ≤ r.count ∧ r.count ≤ 255

/-- The order law, record by record. -/
def Ordered : List NoteRecord → Prop
  | [] => True
  | r :: q => Oldest r ∧ ∀ x ∈ q, Unsent x

theorem notesOrdered_iff (n : Notes) : NotesOrdered n ↔ Ordered n.queue := by
  cases hq : n.queue with
  | nil =>
    exact ⟨fun _ => trivial, fun _ => ⟨by simp [hq], by simp [hq], by simp [hq], by simp [hq]⟩⟩
  | cons r q =>
    constructor
    · rintro ⟨hbehind, hhead, hwaiting, hcounts⟩
      rw [hq] at hbehind hhead hwaiting hcounts
      exact ⟨⟨hhead r rfl, hwaiting r rfl, hcounts r List.mem_cons_self⟩,
        fun x hx => ⟨hbehind x hx, hcounts x (List.mem_cons_of_mem r hx)⟩⟩
    · rintro ⟨⟨hsent, hwaiting, hcount⟩, hbehind⟩
      refine ⟨?_, ?_, ?_, ?_⟩ <;> rw [hq]
      · exact fun x hx => (hbehind x hx).never
      · rintro _ ⟨⟩
        exact hsent
      · rintro _ ⟨⟩
        exact hwaiting
      · exact List.forall_mem_cons.2 ⟨hcount, fun x hx => (hbehind x hx).count⟩

theorem Unsent.oldest {r : NoteRecord} (h : Unsent r) : Oldest r :=
  ⟨.inl h.never, fun _ => by rw [h.never.1]; decide, h.count⟩

/-- An oldest record without a transmission has never been sent. -/
theorem Oldest.unsent {r : NoteRecord} (h : Oldest r) (ha : r.attempts = 0) : Unsent r :=
  ⟨h.sent.resolve_right fun hs => by omega, h.count⟩

/-- An oldest record that waits for no grant has been sent. -/
theorem Oldest.wasSent {r : NoteRecord} (h : Oldest r) (hw : r.state ≠ .waiting) :
    1 ≤ r.attempts ∧ r.attempts ≤ 3 ∧ r.seq.isSome = true :=
  h.sent.resolve_left fun hn => hw hn.2.2

theorem unsent_freshRecord (o : Occurrence) (c : Cycle) : Unsent (freshRecord o c) :=
  ⟨⟨rfl, rfl, rfl⟩, le_rfl, Nat.succ_le_succ (Nat.zero_le 254)⟩

theorem Unsent.fold {r : NoteRecord} (h : Unsent r) (o : Occurrence) (c : Cycle) : Unsent (foldInto o c r) := by
  refine ⟨h.never, ?_⟩
  show 1 ≤ min 255 (r.count + 1) ∧ min 255 (r.count + 1) ≤ 255
  omega

theorem ordered_of_unsent {q : List NoteRecord} (h : ∀ x ∈ q, Unsent x) : Ordered q := by
  cases q with
  | nil => trivial
  | cons r q => exact ⟨(h r List.mem_cons_self).oldest, fun x hx => h x (List.mem_cons_of_mem r hx)⟩

theorem Ordered.tail {q : List NoteRecord} (h : Ordered q) : ∀ x ∈ q.tail, Unsent x := by
  cases q with
  | nil => simp
  | cons r q => exact h.2

theorem unsent_append {q : List NoteRecord} (h : ∀ x ∈ q, Unsent x) (o : Occurrence) (c : Cycle) :
    ∀ x ∈ q ++ [freshRecord o c], Unsent x := by
  intro x hx
  rcases List.mem_append.1 hx with hx | hx
  · exact h x hx
  · rw [List.mem_singleton.1 hx]
    exact unsent_freshRecord o c

theorem Ordered.append {q : List NoteRecord} (h : Ordered q) (o : Occurrence) (c : Cycle) :
    Ordered (q ++ [freshRecord o c]) := by
  cases q with
  | nil => exact ordered_of_unsent (unsent_append (by simp) o c)
  | cons r q => exact ⟨h.1, unsent_append h.2 o c⟩

/-- An occurrence folds into a record never sent, wherever that stands (R153). -/
theorem Ordered.fold {pre post : List NoteRecord} {r : NoteRecord} (h : Ordered (pre ++ r :: post))
    (ha : r.attempts = 0) (o : Occurrence) (c : Cycle) : Ordered (pre ++ foldInto o c r :: post) := by
  cases pre with
  | nil => exact ⟨((h.1.unsent ha).fold o c).oldest, h.2⟩
  | cons x pre =>
    refine ⟨h.1, fun y hy => ?_⟩
    rcases List.mem_append.1 hy with hy | hy
    · exact h.2 y (List.mem_append_left _ hy)
    · rcases List.mem_cons.1 hy with rfl | hy
      · exact (h.2 r (List.mem_append_right _ List.mem_cons_self)).fold o c
      · exact h.2 y (List.mem_append_right _ (List.mem_cons_of_mem r hy))

/-- Only the oldest record can bear a NOTE_SEQ (R148). -/
theorem Ordered.head_of_seq {r x : NoteRecord} {q : List NoteRecord} {seq : BitVec 8} (h : Ordered (r :: q))
    (hx : x ∈ r :: q) (hseq : x.seq = some seq) : x = r := by
  refine (List.mem_cons.1 hx).resolve_right fun hbehind => ?_
  rw [(h.2 x hbehind).never.2.1] at hseq
  cases hseq

/-! ### The laws of the note unit (R148, R154) -/

/-- The capacity, the order and the tally: the laws, said of the note unit alone. -/
def Lawful (n : Notes) : Prop := n.queue.length ≤ 16 ∧ Ordered n.queue ∧ TallyOnlyFull n

theorem noteLaws_iff (s : State) : NoteLaws s ↔ Lawful s.notes :=
  and_congr_right fun _ => and_congr_left fun _ => notesOrdered_iff s.notes

/-- An oldest record put in the place of another. -/
theorem Lawful.replaceHead {n m : Notes} {r r' : NoteRecord} {q : List NoteRecord} (h : Lawful n)
    (hq : n.queue = r :: q) (hr : Oldest r → Oldest r') (hqueue : m.queue = r' :: q) (htally : m.tally = n.tally) :
    Lawful m := by
  obtain ⟨hlen, horder, htallyFull, htallyMax⟩ := h
  rw [hq] at hlen horder htallyFull
  refine ⟨?_, ?_, ?_, ?_⟩
  · rw [hqueue]; exact hlen
  · rw [hqueue]; exact ⟨hr horder.1, horder.2⟩
  · rw [hqueue, htally]; exact htallyFull
  · rw [htally]; exact htallyMax

theorem Lawful.record {n : Notes} (h : Lawful n) (o : Occurrence) (c : Cycle) : Lawful (recordOccurrence o c n) := by
  obtain ⟨hlen, horder, htallyFull, htallyMax⟩ := h
  rcases recordOccurrence_outcomes o c n with ⟨pre, r, post, hq, htakes, he⟩ | ⟨hroom, he⟩ | ⟨hfull, he⟩ <;> rw [he]
  · obtain ⟨ha, -⟩ := takesOccurrence_iff.1 htakes
    have hsame : (pre ++ foldInto o c r :: post).length = n.queue.length := by rw [hq]; simp
    rw [hq] at horder
    exact ⟨hsame.trans_le hlen, horder.fold ha o c, fun ht => hsame.trans (htallyFull ht), htallyMax⟩
  · have hnone : ¬ 0 < n.tally := fun ht => by have := htallyFull ht; omega
    refine ⟨?_, horder.append o c, fun ht => absurd ht hnone, htallyMax⟩
    rw [List.length_append]
    exact hroom
  · exact ⟨hlen, horder, fun _ => Nat.le_antisymm hlen hfull, Nat.min_le_left _ _⟩

/-- The head's leaving makes room, and what the tally counted is reported by a LOST record in that room (R155). -/
theorem Lawful.headLeaves {n : Notes} (h : Lawful n) (hne : n.queue ≠ []) (c : Cycle) : Lawful (headLeaves c n) := by
  obtain ⟨hlen, horder, htallyFull, htallyMax⟩ := h
  have hpos := List.length_pos_iff.2 hne
  have htail : n.queue.tail.length ≤ 15 := by rw [List.length_tail]; omega
  rw [headLeaves_eq_headGone hlen]
  unfold headGone
  split
  · refine ⟨?_, ordered_of_unsent (unsent_append horder.tail (.lost n.tally) c), fun ht => absurd ht (Nat.lt_irrefl 0),
      Nat.zero_le _⟩
    rw [List.length_append]
    exact Nat.succ_le_succ htail
  · rename_i hc
    exact ⟨htail.trans (by decide), ordered_of_unsent horder.tail, fun ht => absurd ⟨htallyFull ht, ht⟩ hc, htallyMax⟩

/-- An acknowledgement that names a record names the oldest (R155, R161). -/
theorem Lawful.ackLeaves {n : Notes} (h : Lawful n) {seq : BitVec 8}
    (hs : (n.queue.any fun r => r.seq == some seq) = true) (c : Cycle) : Lawful (ackLeaves seq c n) := by
  obtain ⟨x, hx, hseq⟩ := List.any_eq_true.1 hs
  have horder := h.2.1
  cases hq : n.queue with
  | nil => rw [hq] at hx; cases hx
  | cons r q =>
    rw [hq] at hx horder
    have hxseq : x.seq = some seq := by simpa using hseq
    have hr : r.seq = some seq := horder.head_of_seq hx hxseq ▸ hxseq
    rw [ackLeaves_of_head hq hr]
    exact h.headLeaves (by simp [hq]) c

/-- The note unit's action at a wrap: the head waits on, is offered again, or leaves (R160). -/
theorem Lawful.act {n : Notes} (h : Lawful n) (c : Cycle) : Lawful (notesAct c n) := by
  by_cases hawaits : ∃ r q, n.queue = r :: q ∧ r.state = .awaitingAck
  · obtain ⟨r, q, hq, hr⟩ := hawaits
    by_cases hw : r.wait + 1 < n.retry
    · rw [notesAct_waits hq hr hw]
      exact h.replaceHead hq (r' := { r with wait := r.wait + 1 }) (fun ho => ⟨ho.sent, ho.waiting, ho.count⟩) rfl rfl
    · by_cases ha : r.attempts < 3
      · rw [notesAct_offers hq hr (Nat.le_of_not_lt hw) ha]
        refine h.replaceHead hq (r' := { r with state := .waiting, wait := r.wait + 1 })
          (fun ho => ⟨.inr (ho.wasSent ?_), fun _ => ha, ho.count⟩) rfl rfl
        rw [hr]; decide
      · rw [notesAct_abandons hq hr (Nat.le_of_not_lt hw) (Nat.le_of_not_lt ha)]
        refine Lawful.headLeaves ?_ (by simp [hq]) c
        exact h
  · rw [notesAct_of_not_awaiting fun r q hq hr => hawaits ⟨r, q, hq, hr⟩]
    exact h

/-- A note granted was WAITING, so that this is at most its third transmission (R158, R160). -/
theorem Lawful.granted {n : Notes} {r : NoteRecord} {q : List NoteRecord} (h : Lawful n) (hq : n.queue = r :: q)
    (hw : r.state = .waiting) : Lawful (notesGranted n r q) :=
  h.replaceHead hq (r' := sentRecord n r)
    (fun ho => ⟨.inr ⟨Nat.succ_pos _, ho.waiting hw, rfl⟩, fun hs => (by cases hs), ho.count⟩) rfl rfl

theorem Lawful.completed {n : Notes} (h : Lawful n) : Lawful (noteCompleted n) := by
  cases hq : n.queue with
  | nil =>
    rw [noteCompleted_of_empty hq, ← hq]
    exact h
  | cons r q =>
    rw [noteCompleted_of_head hq]
    refine h.replaceHead hq (fun ho => ?_) rfl rfl
    split
    · rename_i hr
      exact ⟨.inr (ho.wasSent (by rw [hr]; decide)), fun hw => (by cases hw), ho.count⟩
    · exact ho

/-- The note queue as a restart and as power-on leave it (R163). -/
theorem lawful_started (addressed : Bool) (cause : StartCause) : Lawful { queue := startedQueue addressed cause } := by
  have hunsent : ∀ x ∈ startedQueue addressed cause, Unsent x := by
    intro x hx
    cases addressed with
    | false => cases hx
    | true => exact List.mem_singleton.1 hx ▸ unsent_freshRecord _ _
  exact ⟨startedQueue_fits addressed cause, ordered_of_unsent hunsent, fun ht => absurd ht (Nat.lt_irrefl 0),
    Nat.zero_le _⟩

/-! ### The invariant -/

theorem lawful_keptOnNotes : KeptOnNotes fun s => Lawful s.notes where
  same hs hn _ := hn ▸ hs
  record o c hs := hs.record o c
  grant _ hq hw hs := hs.granted hq hw

theorem lawful_effect {s t : State} (hs : Lawful s.notes) (he : Effect s t) : Lawful t.notes := by
  cases he with
  | deleteStream =>
    unfold deleteStream
    dsimp only
    rw [detach_eq, purgeQueue_eq]
    exact hs
  | purge => rw [purgeQueue_eq]; exact hs
  | hold limit => exact lawful_keptOnNotes.gateEnds _ (by exact hs)
  | configureSync => exact lawful_keptOnNotes.gateEnds _ (lawful_keptOnNotes.reportSync _ (by exact hs))
  | zero g =>
    cases g with
    | port p => cases p <;> exact hs
    | _ => exact hs
  | ackNote hq => exact hs.ackLeaves hq _
  | _ => exact hs

theorem lawful_event {s t : State} (hs : Lawful s.notes) (he : Event s t) : Lawful t.notes := by
  cases he with
  | header p b => exact lawful_keptOnNotes.lines.header p b hs
  | frameEnd p b => exact lawful_keptOnNotes.lines.frameEnd p b hs
  | link p l => exact lawful_keptOnNotes.lines.link p l hs
  | completeD =>
    rename_i t _
    rw [completeD_eq]
    cases t.source <;> exact hs
  | completeU =>
    rename_i t _
    rcases completeU_cases t s with ⟨x, -, he⟩ | ⟨-, he | he | ⟨-, he⟩⟩ | ⟨-, he⟩ <;> rw [he]
    · exact hs
    · exact hs
    · exact lawful_started _ _
    · exact hs
    · exact hs.completed
  | engine => exact lawful_keptOnNotes.engineEvent hs
  | request hn ht =>
    exact answered_keeps (I := fun t => Lawful t.notes) lawful_effect (fun _ hu => hu)
      (fun o hu => lawful_keptOnNotes.report o hu) hs ht

/-- Nothing that happens in a running part breaks the laws of the note queue. -/
theorem lawful_kept : KeptByEvents fun s => Lawful s.notes where
  quiet hs h := by
    cases h with
    | byte p b => exact lawful_keptOnNotes.lines.byte p b hs
    | _ => exact hs
  event hs h := lawful_keptOnNotes.conclude _ (lawful_event hs h)
  wrap order hs := lawful_keptOnNotes.newCycle lawful_keptOnNotes (fun ht => Lawful.act ht _) order hs

theorem noteLaws_lift : Lifts (fun s => Lawful s.notes) NoteLaws where
  kept := lawful_kept
  running _ := noteLaws_iff _
  pending _ hs := hs
  begins _ hs := hs
  conditions _ _ hs := hs
  values _ _ := lawful_started _ _

/-- Settles O57: a record is sent only as the oldest and WAITING, and leaves only as the oldest. -/
theorem noteLawsKept : Obligations.NoteLawsKept := fun _ _ hs he => noteLaws_lift.step hs he

end Sys2Proof.NoteQueue
end

section
/-! PROOF. The head note's wait at a wrap, followed from the state the wrap finds to the note unit's action and on to the
end of the wrap, and the settling of the obligation on it (R149, R153, R156 to R158, R160). -/

namespace Sys2Proof.NoteQueue

open Sys2Proof.Machine Sys2Proof.Safety Sys2Proof.Claims Sys2Proof.Link Sys2Proof.Invariants Sys2Proof.Wraps
  Sys2Proof.Cycles

/-! ### The records, in their order (R148, R153) -/

theorem noteKey_foldInto {o : Occurrence} {r : NoteRecord} (h : takesOccurrence o r = true) (c : Cycle) :
    noteKey (foldInto o c r) = noteKey r := by
  obtain ⟨-, hkind, hstream⟩ := takesOccurrence_iff.1 h
  unfold noteKey
  rw [hkind, hstream]
  rfl

/-- An occurrence leaves the records in their order and comes behind them, if it makes a record of its own. -/
theorem keys_recordOccurrence (o : Occurrence) (c : Cycle) (n : Notes) :
    n.queue.map noteKey <+: (recordOccurrence o c n).queue.map noteKey := by
  rcases recordOccurrence_outcomes o c n with ⟨pre, r, post, hq, htakes, he⟩ | ⟨-, he⟩ | ⟨-, he⟩
  · simp [he, hq, noteKey_foldInto htakes]
  · simp [he]
  · simp [he]

/-- The records behind a head that leaves keep their order (R155). -/
theorem keys_headLeaves {n : Notes} {r : NoteRecord} {q : List NoteRecord} (hq : n.queue = r :: q) (c : Cycle) :
    q.map noteKey <+: (headLeaves c n).queue.map noteKey := by
  rcases headLeaves_queue c n with he | ⟨he, -⟩ <;> rw [he, hq]
  · exact List.prefix_rfl
  · rw [List.map_append]
    exact List.prefix_append _ _

/-- An occurrence changes nothing of a head that has been sent (R153). -/
theorem head_recordOccurrence {n : Notes} {r : NoteRecord} (h : n.queue.head? = some r) (ha : r.attempts ≠ 0)
    (o : Occurrence) (c : Cycle) : (recordOccurrence o c n).queue.head? = some r := by
  rcases recordOccurrence_outcomes o c n with ⟨pre, x, post, hq, htakes, he⟩ | ⟨-, he⟩ | ⟨-, he⟩ <;> rw [he]
  · rw [hq] at h
    cases pre with
    | nil =>
      cases h
      exact absurd (takesOccurrence_iff.1 htakes).1 ha
    | cons y pre => exact h
  · obtain ⟨q, hq⟩ := List.head?_eq_some_iff.1 h
    rw [hq]
    rfl
  · exact h

theorem retryAbandoned_recordOccurrence (o : Occurrence) (c : Cycle) (n : Notes) :
    (recordOccurrence o c n).retry = n.retry ∧
      (recordOccurrence o c n).counters.notesAbandoned = n.counters.notesAbandoned := by
  rcases recordOccurrence_outcomes o c n with ⟨pre, x, post, -, -, he⟩ | ⟨-, he⟩ | ⟨-, he⟩ <;> rw [he] <;>
    exact ⟨rfl, rfl⟩

/-! ### What occurrences and grants leave of the queue -/

/-- The records known by `keys` stand in the queue in that order, at its front. -/
theorem keys_keptOnNotes (keys : List (Nat × Option StreamId × Cycle)) :
    KeptOnNotes fun t => keys <+: t.notes.queue.map noteKey where
  same hs hn _ := hn ▸ hs
  record o c hs := hs.trans (keys_recordOccurrence o c _)
  grant _ hq _ hs := by
    rw [hq] at hs
    exact hs

theorem retryAbandoned_keptOnNotes (retry : Nat) (abandoned : Count) :
    KeptOnNotes fun t => t.notes.retry = retry ∧ t.notes.counters.notesAbandoned = abandoned where
  same hs hn _ := hn ▸ hs
  record o c hs := by
    obtain ⟨hr, hc⟩ := retryAbandoned_recordOccurrence o c _
    exact ⟨hr.trans hs.1, hc.trans hs.2⟩
  grant {s r q} _ _ _ hs := by
    refine ⟨hs.1, Eq.trans ?_ hs.2⟩
    unfold notesGranted
    dsimp only
    split <;> rfl

/-- The head of the queue satisfies `P`; port U's transmitter is IDLE only if it was in `s`. -/
structure HeadIs (s : State) (P : NoteRecord → Prop) (t : State) : Prop where
  head : ∃ r, t.notes.queue.head? = some r ∧ P r
  idle : t.txU = none → s.txU = none

/-- A head that has been sent takes no occurrence; a grant that finds the transmitter IDLE may send it again. -/
theorem headIs_keptOnNotes {s : State} {P : NoteRecord → Prop} (hsent : ∀ r, P r → r.attempts ≠ 0)
    (hgrant : s.txU = none → ∀ n r, P r → r.state = .waiting → P (sentRecord n r)) : KeptOnNotes (HeadIs s P) where
  same := fun ⟨hhead, hidle⟩ hn hu => ⟨hn ▸ hhead, fun ht => hidle (hu ht)⟩
  record o c := fun ⟨⟨r, hr, hP⟩, hidle⟩ => ⟨⟨r, head_recordOccurrence hr (hsent r hP) o c, hP⟩, hidle⟩
  grant := by
    rintro t r q hu hq hw ⟨⟨x, hx, hP⟩, hidle⟩
    rw [hq] at hx
    cases hx
    exact ⟨⟨_, rfl, hgrant (hidle hu) _ _ hP hw⟩, hidle⟩

/-- A head that awaits its acknowledgement stays what it is. -/
theorem awaiting_keptOnNotes (s : State) {r : NoteRecord} (hsent : r.attempts ≠ 0) (hr : r.state = .awaitingAck) :
    KeptOnNotes (HeadIs s (· = r)) := by
  refine headIs_keptOnNotes (fun _ he => he ▸ hsent) fun _ n x he hw => ?_
  rw [he, hr] at hw
  cases hw

/-- The record `r` offered again, or already granted by an arbiter, port U's transmitter being IDLE in `s` (R160). -/
def OfferedAgain (s : State) (r r' : NoteRecord) : Prop :=
  r'.occ = r.occ ∧ r'.seq = r.seq ∧ r'.first = r.first ∧ r'.last = r.last ∧ r'.count = r.count ∧
    (r'.state = .waiting ∧ r'.attempts = r.attempts ∨
      r'.state = .sending ∧ r'.attempts = r.attempts + 1 ∧ s.txU = none)

theorem offeredAgain_keptOnNotes {s : State} {r : NoteRecord} (hsent : r.attempts ≠ 0) (hseq : r.seq.isSome = true) :
    KeptOnNotes (HeadIs s (OfferedAgain s r)) := by
  obtain ⟨seq, hseq⟩ := Option.isSome_iff_exists.1 hseq
  refine headIs_keptOnNotes ?_ ?_
  · rintro x ⟨-, -, -, -, -, ⟨-, ha⟩ | ⟨-, ha, -⟩⟩
    · rw [ha]; exact hsent
    · rw [ha]; exact Nat.succ_ne_zero _
  · rintro hu n x ⟨hocc, hx, hfirst, hlast, hcount, ⟨-, ha⟩ | ⟨hsending, -⟩⟩ hw
    · refine ⟨hocc, ?_, hfirst, hlast, hcount, .inr ⟨rfl, congrArg (· + 1) ha, hu⟩⟩
      show some (x.seq.getD n.nextSeq) = r.seq
      rw [hx, hseq]
      rfl
    · rw [hsending] at hw
      cases hw

/-! ### Up to the note unit's action -/

/-- The head `r` awaits its acknowledgement, before the note unit acts at the wrap of `s`. -/
def StillAwaits (s : State) (r : NoteRecord) (q : List NoteRecord) (t : State) : Prop :=
  HeadIs s (· = r) t ∧ (r :: q).map noteKey <+: t.notes.queue.map noteKey ∧
    t.notes.retry = s.notes.retry ∧ t.notes.counters.notesAbandoned = s.notes.counters.notesAbandoned

section

variable {s : State} {r : NoteRecord} {q : List NoteRecord}

theorem stillAwaits_keptOnNotes (hsent : r.attempts ≠ 0) (hr : r.state = .awaitingAck) :
    KeptOnNotes (StillAwaits s r q) :=
  (awaiting_keptOnNotes s hsent hr).and ((keys_keptOnNotes _).and (retryAbandoned_keptOnNotes _ _))

/-- The queue as the note unit finds it. -/
theorem StillAwaits.queue {t : State} (h : StillAwaits s r q t) :
    ∃ q', t.notes.queue = r :: q' ∧ q.map noteKey <+: q'.map noteKey := by
  obtain ⟨⟨⟨x, hx, rfl⟩, -⟩, hkeys, -⟩ := h
  obtain ⟨q', hq⟩ := List.head?_eq_some_iff.1 hx
  rw [hq] at hkeys
  exact ⟨q', hq, (List.cons_prefix_cons.1 hkeys).2⟩

/-- A queue whose head is known, and the keys of whose records are. -/
theorem queue_of_headIs {P : NoteRecord → Prop} {t : State} (h : HeadIs s P t)
    (hkeys : (r :: q).map noteKey <+: t.notes.queue.map noteKey) :
    ∃ r' q', t.notes.queue = r' :: q' ∧ q.map noteKey <+: q'.map noteKey ∧ P r' := by
  obtain ⟨⟨r', hr', hP⟩, -⟩ := h
  obtain ⟨q', hq⟩ := List.head?_eq_some_iff.1 hr'
  rw [hq] at hkeys
  exact ⟨r', q', hq, (List.cons_prefix_cons.1 hkeys).2, hP⟩

/-! ### The three outcomes (R160) -/

variable (hr : r.state = .awaitingAck) (hsent : r.attempts ≠ 0) {u : State} (hu : StillAwaits s r q u)
  (order : List WrapAct)
include hr hsent hu

/-- Below RETRY the head waits on. -/
theorem wrapEvent_waits (hw : r.wait + 1 < s.notes.retry) :
    ∃ q', (wrapEvent order u).notes.queue = { r with wait := r.wait + 1 } :: q' ∧ q.map noteKey <+: q'.map noteKey := by
  have hkept := (awaiting_keptOnNotes s (r := { r with wait := r.wait + 1 }) hsent hr).and
    (keys_keptOnNotes ((r :: q).map noteKey))
  have hend := (stillAwaits_keptOnNotes hsent hr).wrapEvent hkept (fun {t} ht => ?_) order hu
  · obtain ⟨r', q', hq, hkeys, rfl⟩ := queue_of_headIs hend.1 hend.2
    exact ⟨q', hq, hkeys⟩
  · obtain ⟨q', hq, -⟩ := ht.queue
    obtain ⟨⟨-, hidle⟩, hkeys, hretry, -⟩ := ht
    have hact : (noteWait t).notes = { t.notes with queue := { r with wait := r.wait + 1 } :: q' } :=
      notesAct_waits hq hr (hretry ▸ hw) _
    rw [hq] at hkeys
    exact ⟨⟨⟨_, by rw [hact]; rfl, rfl⟩, hidle⟩, by rw [hact]; exact hkeys⟩

/-- At RETRY the head is offered again, unless it has been sent three times. -/
theorem wrapEvent_offers (hseq : r.seq.isSome = true) (hw : s.notes.retry ≤ r.wait + 1) (ha : r.attempts < 3) :
    ∃ r' q', (wrapEvent order u).notes.queue = r' :: q' ∧ q.map noteKey <+: q'.map noteKey ∧ OfferedAgain s r r' := by
  have hkept := (offeredAgain_keptOnNotes (s := s) hsent hseq).and (keys_keptOnNotes ((r :: q).map noteKey))
  have hend := (stillAwaits_keptOnNotes hsent hr).wrapEvent hkept (fun {t} ht => ?_) order hu
  · exact queue_of_headIs hend.1 hend.2
  · obtain ⟨q', hq, -⟩ := ht.queue
    obtain ⟨⟨-, hidle⟩, hkeys, hretry, -⟩ := ht
    have hact : (noteWait t).notes = { t.notes with queue := { r with state := .waiting, wait := r.wait + 1 } :: q' } :=
      notesAct_offers hq hr (hretry ▸ hw) ha _
    rw [hq] at hkeys
    refine ⟨⟨⟨_, by rw [hact]; rfl, ?_⟩, hidle⟩, by rw [hact]; exact hkeys⟩
    exact ⟨rfl, rfl, rfl, rfl, rfl, .inl ⟨rfl, rfl⟩⟩

/-- At RETRY a head sent three times is abandoned. -/
theorem wrapEvent_abandons (hw : s.notes.retry ≤ r.wait + 1) (ha : 3 ≤ r.attempts) :
    q.map noteKey <+: (wrapEvent order u).notes.queue.map noteKey ∧
      (wrapEvent order u).notes.counters.notesAbandoned = s.notes.counters.notesAbandoned + 1 := by
  have hkept := (keys_keptOnNotes (q.map noteKey)).and
    (retryAbandoned_keptOnNotes s.notes.retry (s.notes.counters.notesAbandoned + 1))
  have hend := (stillAwaits_keptOnNotes hsent hr).wrapEvent hkept (fun {t} ht => ?_) order hu
  · exact ⟨hend.1, hend.2.2⟩
  · obtain ⟨q', hq, hkeys⟩ := ht.queue
    obtain ⟨-, -, hretry, hcount⟩ := ht
    have hact : (noteWait t).notes = headLeaves t.timer.cycle
        { t.notes with counters := { t.notes.counters with notesAbandoned := t.notes.counters.notesAbandoned + 1 } } :=
      notesAct_abandons hq hr (hretry ▸ hw) ha _
    rw [hact, headLeaves_retry, headLeaves_counters]
    exact ⟨hkeys.trans (keys_headLeaves (by exact hq) _), hretry, congrArg (· + 1) hcount⟩

end

/-! ### WRAP and NOTE_TIMEOUT -/

/-- NOTE_TIMEOUT is the wrap where the head's WAIT reaches RETRY (R160). -/
theorem exec_noteTimeout_of_atWrap {s : State} {order : List WrapAct} (h : AtWrap s order) {r : NoteRecord}
    {q : List NoteRecord} (hq : s.notes.queue = r :: q) (hr : r.state = .awaitingAck)
    (hw : s.notes.retry ≤ r.wait + 1) :
    exec (.noteTimeout order) s = .next (wrapEvent order (reachWrap s)) := by
  refine congrArg Host.Outcome.next (wrapWhen_of_atWrap h (cond := noteTimeoutMet) ?_)
  have hnotes : (reachWrap s).notes = s.notes := by rw [reachWrap_of_atWrap h]
  unfold noteTimeoutMet timesOut
  rw [hnotes, hq]
  simp [hr, hw]

/-- The tick that is the wrap ends no transmission. -/
theorem reachWrap_txU_none {s : State} (h : (reachWrap s).txU = none) : s.txU = none := by
  rcases reachWrap_cases s with ⟨-, -, he⟩ | ⟨-, he⟩ <;> rw [he] at h
  · exact Option.map_eq_none_iff.1 h
  · exact h

theorem stillAwaits_reachWrap {s : State} {order : List WrapAct} (h : AtWrap s order) {r : NoteRecord}
    {q : List NoteRecord} (hq : s.notes.queue = r :: q) : StillAwaits s r q (reachWrap s) := by
  have hnotes : (reachWrap s).notes = s.notes := by rw [reachWrap_of_atWrap h]
  unfold StillAwaits
  rw [hnotes, hq]
  exact ⟨⟨⟨r, by rw [hnotes, hq]; rfl, rfl⟩, reachWrap_txU_none⟩, List.prefix_rfl, rfl, rfl⟩

/-- Settles O35: the order law says that the head has been sent, so that no occurrence folds into it on the way. -/
theorem noteWaitsAtWrap : Obligations.NoteWaitsAtWrap := by
  intro s order c r q h horder hq hr hc
  have hexec : exec c s = .next (wrapEvent order (reachWrap s)) := by
    rcases hc with rfl | ⟨rfl, hw⟩
    · exact exec_wrap_of_atWrap h
    · exact exec_noteTimeout_of_atWrap h hq hr hw
  have hordered := (notesOrdered_iff s.notes).1 horder
  rw [hq] at hordered
  obtain ⟨hattempts, -, hseq⟩ := hordered.1.wasSent (by rw [hr]; decide)
  have hsent : r.attempts ≠ 0 := Nat.one_le_iff_ne_zero.1 hattempts
  have hfound := stillAwaits_reachWrap h hq
  exact ⟨_, hexec, wrapEvent_waits hr hsent hfound order, wrapEvent_offers hr hsent hfound order hseq,
    wrapEvent_abandons hr hsent hfound order⟩

end Sys2Proof.NoteQueue
end

section
/-! PROOF. NOTE_ACK, NOTE_CONFIG and PASS_CONFIG: each owner's checks and effect, and the settling of the obligations on
them (R32, R100, R139, R148, R152, R155, R161). -/

namespace Sys2Proof.NoteQueue

open Sys2Proof.Machine Sys2Proof.Safety Sys2Proof.Claims Sys2Proof.Link Sys2Proof.Invariants Sys2Proof.Requests
  Sys2Proof.Plans

/-! ### NOTE_ACK (R155, R161) -/

/-- Under the order law a NOTE_SEQ is looked for in the oldest record alone (R148). -/
theorem any_seq_iff {r : NoteRecord} {q : List NoteRecord} (h : Ordered (r :: q)) (seq : BitVec 8) :
    ((r :: q).any fun x => x.seq == some seq) = true ↔ r.seq = some seq := by
  rw [List.any_eq_true]
  constructor
  · rintro ⟨x, hx, hseq⟩
    have hxseq : x.seq = some seq := by simpa using hseq
    exact h.head_of_seq hx hxseq ▸ hxseq
  · exact fun hseq => ⟨r, List.mem_cons_self, by simp [hseq]⟩

theorem noteAck_answers {s : State} (h : NoteLaws s) (q : Byte) :
    AnswersWith s (noteAckOwner [q] (takeHead s)) (noteAckVerdict q s) := by
  obtain ⟨hlen, horder, -⟩ := (noteLaws_iff s).1 h
  have harg : arg [q] 0 1 = q.toNat := natBE_one q
  have hseq : BitVec.ofNat 8 (arg [q] 0 1) = q := by simp [harg]
  have habsent : AnswersWith s (refuse (takeHead s) .absent) (refused 4 s) := ⟨rfl, rfl, rfl, .refl s⟩
  unfold noteAckOwner noteAckVerdict
  dsimp only
  rw [hseq]
  show AnswersWith s (if (s.notes.queue.any fun r => r.seq == some q) = true then
    accept (takeHead { s with notes := ackLeaves q s.timer.cycle s.notes }) [] else refuse (takeHead s) .absent) _
  cases hq : s.notes.queue with
  | nil => exact habsent
  | cons r rest =>
    rw [hq] at horder
    dsimp only
    by_cases hr : r.seq = some q
    · rw [if_pos ((any_seq_iff horder q).2 hr), if_pos hr, ackLeaves_of_head hq hr, headLeaves_eq_headGone hlen]
      exact ⟨rfl, rfl, rfl, ⟨rfl, rfl, rfl, rfl⟩⟩
    · rw [if_neg (mt (any_seq_iff horder q).1 hr), if_neg hr]
      exact habsent

/-- Settles O47: only the oldest record can bear the NOTE_SEQ. -/
theorem noteAckRemoves : Obligations.NoteAckRemoves := fun _ _ _ q ha hlaws hr =>
  congrArg Host.Outcome.next (execOp_conclude ha hr rfl rfl (noteAck_answers hlaws q))

/-! ### NOTE_CONFIG (R152) -/

/-- A mask and a RETRY in place of those that stand. -/
def reconfiguredNotes (mask : BitVec 12) (retry : Nat) (s : State) : State :=
  { s with notes := { s.notes with mask := mask, retry := retry } }

/-- Neither setting makes a note appear, and the answer invokes port U's arbiter alone (R32, R100, R157). -/
theorem conclude_reconfiguredNotes (mask : BitVec 12) (retry : Nat) (s : State) (f : FrameBytes)
    (rest : List FrameBytes) (op status : Byte) (result : List Byte) :
    let u := answered s f rest op { status := status, result := result, state := reconfiguredNotes mask retry s }
    conclude s u = offered s u := by
  intro u
  have hD : invokesD s u = false := invokesD_of_view_eq rfl
  have hU : invokesU s u = s.mgmt.outbox.isEmpty :=
    invokesU_answered (v := { status := status, result := result, state := s }) rfl f rest op
  unfold conclude offered
  rw [hD, hU]
  cases s.mgmt.outbox <;> rfl

theorem noteConfig_execOp {s : State} {f : FrameBytes} {rest : List FrameBytes} {m1 m0 retry : Byte}
    (ha : Addressed s f) (hr : Request s f rest 0x16 [m1, m0, retry]) :
    execOp .noteConfig noteConfigOwner s = offered s (answered s f rest 0x16 (noteConfigVerdict m1 m0 retry s)) := by
  have hmask : arg [m1, m0, retry] 0 2 = word2 m1 m0 := natBE_two m1 m0
  have hretry : arg [m1, m0, retry] 2 1 = retry.toNat := natBE_one retry
  by_cases hbad : 4095 < word2 m1 m0 ∨ retry.toNat < 1 ∨ 64 < retry.toNat
  · have howner : noteConfigOwner [m1, m0, retry] (takeHead s) = refuse (takeHead s) .arg := by
      unfold noteConfigOwner
      rw [hmask, hretry]
      exact if_pos hbad
    have hverdict : noteConfigVerdict m1 m0 retry s = refused 3 s := if_pos hbad
    rw [hverdict]
    exact execOp_eq ha hr rfl rfl (howner ▸ answersAs_refuse s .arg)
  · have howner : noteConfigOwner [m1, m0, retry] (takeHead s) =
        accept (takeHead (reconfiguredNotes (BitVec.ofNat 12 (word2 m1 m0)) retry.toNat s)) [] := by
      unfold noteConfigOwner
      rw [hmask, hretry]
      exact if_neg hbad
    have hverdict : noteConfigVerdict m1 m0 retry s =
        { status := 0, result := []
          state := reconfiguredNotes (BitVec.ofNat 12 (word2 m1 m0)) retry.toNat s } := if_neg hbad
    rw [hverdict, ← conclude_reconfiguredNotes]
    exact execOp_conclude ha hr rfl rfl (howner ▸ ⟨rfl, rfl, rfl, ⟨rfl, rfl, rfl, rfl⟩⟩)

/-! ### PASS_CONFIG (R139) -/

theorem unmatchedOf_eq (n : Nat) :
    unmatchedOf n = if 1 < n then none else some (if n = 0 then .forward else .drop) := by
  rcases n with _ | _ | n
  · rfl
  · rfl
  · rw [if_pos (by omega)]; rfl

theorem passConfig_answers (policy g1 g0 : Byte) (s : State) :
    AnswersAs s (passConfigOwner [policy, g1, g0] (takeHead s)) (passConfigVerdict policy g1 g0 s) := by
  have hpolicy : arg [policy, g1, g0] 0 1 = policy.toNat := natBE_one policy
  have hmargin : arg [policy, g1, g0] 1 2 = word2 g1 g0 := natBE_two g1 g0
  have hzero : policy.toNat = 0 ↔ policy = 0 := BitVec.toNat_inj (y := 0#8)
  unfold passConfigOwner passConfigVerdict
  rw [hpolicy, hmargin, unmatchedOf_eq]
  simp only [hzero]
  by_cases hundefined : 1 < policy.toNat
  · rw [if_pos hundefined, if_pos (.inl hundefined)]
    exact answersAs_refuse s .arg
  · rw [if_neg hundefined]
    by_cases hhigh : 1023 < word2 g1 g0
    · dsimp only
      rw [if_neg (Nat.not_le.2 hhigh), if_pos (Or.inr hhigh)]
      exact answersAs_refuse s .arg
    · dsimp only
      rw [if_pos (Nat.not_lt.1 hhigh), if_neg (not_or.2 ⟨hundefined, hhigh⟩)]
      exact ⟨rfl, rfl, rfl, ⟨rfl, rfl, rfl, rfl, invokesD_of_view_eq rfl⟩⟩

/-- Settles O48: neither request changes what the arbiters look at. -/
theorem noteConfigAndPassConfig : Obligations.NoteConfigAndPassConfig := fun s _ _ ha =>
  ⟨fun _ _ _ hr => congrArg Host.Outcome.next (noteConfig_execOp ha hr),
    fun policy g1 g0 hr =>
      congrArg Host.Outcome.next (execOp_eq ha hr rfl rfl (passConfig_answers policy g1 g0 s))⟩

end Sys2Proof.NoteQueue
end

section
/-! PROOF. COUNT_READ: a group's code, its counters and its zeroing, as the verdict has them, the answer that zeroes the
group, and the settling of the obligation on it (R164, R166, R167). -/

namespace Sys2Proof.Requests

open Sys2Proof.Machine Sys2Proof.Safety Sys2Proof.Claims Sys2Proof.Link Sys2Proof.Invariants Sys2Proof.Plans

/-! ### The groups (R164) -/

/-- From code 7 on only the STREAM groups have a code, 32 more than the index of the entry. -/
theorem ofCode_of_seven_le {n : Nat} (h : 7 ≤ n) :
    Group.ofCode n = if h : n - 32 < 32 ∧ 32 ≤ n then some (.stream ⟨n - 32, h.1⟩) else none := by
  obtain ⟨n, rfl⟩ := Nat.exists_eq_add_of_le' h
  show (if 32 ≤ n + 7 then (streamIdOf (n + 7 - 32)).map Group.stream else none) = _
  by_cases hlow : 32 ≤ n + 7
  · rw [if_pos hlow]
    by_cases hindex : n + 7 - 32 < 32
    · rw [streamIdOf_of_lt hindex, dif_pos ⟨hindex, hlow⟩]
      rfl
    · rw [streamIdOf_of_not_lt hindex, dif_neg fun h => hindex h.1]
      rfl
  · rw [if_neg hlow, dif_neg fun h => hlow h.2]

/-- The verdict's table of groups is the model's: whether the group exists, its counters and its zeroing. -/
theorem countGroup_eq (n : Nat) (s : State) :
    countGroup n s = (Group.ofCode n).map fun k => (groupExists s k, groupList s k, zeroGroup k s) := by
  by_cases hstream : 7 ≤ n
  · rw [ofCode_of_seven_le hstream]
    unfold countGroup
    dsimp only
    rw [if_neg (by omega), if_neg (by omega), if_neg (by omega), if_neg (by omega), if_neg (by omega),
      if_neg (by omega), if_neg (by omega)]
    split <;> rfl
  · have hcode : n = 0 ∨ n = 1 ∨ n = 2 ∨ n = 3 ∨ n = 4 ∨ n = 5 ∨ n = 6 := by omega
    rcases hcode with rfl | rfl | rfl | rfl | rfl | rfl | rfl <;> rfl

/-! ### The answer (R166, R167) -/

theorem countReadVerdict_eq (g : Byte) (s : State) :
    countReadVerdict g s =
      match Group.ofCode g.toNat with
      | some k =>
        if groupExists s k then
          { status := 0, result := g :: countBytes (groupList s k), state := zeroGroup k s }
        else refused 4 s
      | none => refused 3 s := by
  unfold countReadVerdict countBytes
  rw [countGroup_eq]
  simp only [bytesBE_four]
  cases Group.ofCode g.toNat with
  | none => rfl
  | some k =>
    dsimp only [Option.map_some]
    cases groupExists s k <;> rfl

theorem zeroGroup_takeHead (k : Group) (s : State) : zeroGroup k (takeHead s) = takeHead (zeroGroup k s) := by
  cases k with
  | port p => cases p <;> rfl
  | _ => rfl

theorem groupList_takeHead (k : Group) (s : State) : groupList (takeHead s) k = groupList s k := by
  cases k with
  | port p => cases p <;> rfl
  | _ => rfl

theorem groupExists_takeHead (k : Group) (s : State) : groupExists (takeHead s) k = groupExists s k := by
  cases k <;> rfl

theorem placing_zeroGroup (k : Group) (s : State) : Placing s (zeroGroup k s) := by
  cases k with
  | port p => cases p <;> exact ⟨rfl, rfl, rfl, rfl⟩
  | _ => exact ⟨rfl, rfl, rfl, rfl⟩

theorem countRead_answers (g : Byte) (s : State) :
    AnswersWith s (countReadOwner [g] (takeHead s)) (countReadVerdict g s) := by
  have hcode : arg [g] 0 1 = g.toNat := natBE_one g
  have hecho : BitVec.ofNat 8 g.toNat = g := by simp
  unfold countReadOwner
  rw [hcode, hecho, countReadVerdict_eq]
  cases Group.ofCode g.toNat with
  | none => exact (answersAs_refuse s .arg).answersWith
  | some k =>
    dsimp only
    rw [groupExists_takeHead, groupList_takeHead, zeroGroup_takeHead]
    cases groupExists s k with
    | false => exact (answersAs_refuse s .absent).answersWith
    | true => exact ⟨rfl, rfl, rfl, placing_zeroGroup k s⟩

/-! ### The arbiters (R32, R100) -/

theorem arbiterViewD_zeroGroup (k : Group) (s : State) : arbiterViewD (zeroGroup k s) = arbiterViewD s := by
  cases k with
  | port p => cases p <;> rfl
  | _ => rfl

/-- The view of port U's arbiter holds the note counters, which NOTES zeroes; but no candidate is among them. -/
theorem invokesU_answered_zeroGroup (k : Group) (s : State) (f : FrameBytes) (rest : List FrameBytes)
    (op status : Byte) (result : List Byte) :
    invokesU s (answered s f rest op { status := status, result := result, state := zeroGroup k s }) =
      s.mgmt.outbox.isEmpty := by
  have hread := invokesU_answered (v := { status := status, result := result, state := s }) rfl f rest op
  cases k with
  | port p => cases p <;> exact hread
  | _ => exact hread

/-- A group zeroed makes no candidate appear: beside the reply nothing invokes an arbiter. -/
theorem conclude_answered_zeroGroup (k : Group) (s : State) (f : FrameBytes) (rest : List FrameBytes)
    (op status : Byte) (result : List Byte) :
    let u := answered s f rest op { status := status, result := result, state := zeroGroup k s }
    conclude s u = offered s u := by
  intro u
  have hD : invokesD s u = false := invokesD_of_view_eq (arbiterViewD_zeroGroup k s)
  have hU : invokesU s u = s.mgmt.outbox.isEmpty := invokesU_answered_zeroGroup k s f rest op status result
  unfold conclude offered
  rw [hD, hU]
  cases s.mgmt.outbox <;> rfl

theorem conclude_countRead (g : Byte) (s : State) (f : FrameBytes) (rest : List FrameBytes) (op : Byte) :
    conclude s (answered s f rest op (countReadVerdict g s)) =
      offered s (answered s f rest op (countReadVerdict g s)) := by
  rw [countReadVerdict_eq]
  cases Group.ofCode g.toNat with
  | none => exact conclude_answered (.refl s) f rest op
  | some k =>
    dsimp only
    cases groupExists s k with
    | false => exact conclude_answered (.refl s) f rest op
    | true => exact conclude_answered_zeroGroup k s f rest op 0 _

/-- Settles O39: the group's counters are read before they are zeroed, and no arbiter looks at a counter. -/
theorem countReadSnapshots : Obligations.CountReadSnapshots := fun s f rest g ha hr =>
  congrArg Host.Outcome.next
    ((execOp_conclude ha hr rfl rfl (countRead_answers g s)).trans (conclude_countRead g s f rest 0x14))

end Sys2Proof.Requests
end

section
/-! PROOF. What POWER_ON, the ticks of power-on and POWER_ON_COMPLETE leave, and the settling of the obligations on
power-on and on reset (R15, R18, R142, R143, R158, R163, R172). -/

namespace Sys2Proof.PoweringUp

open Sys2Proof.Machine Sys2Proof.Safety Sys2Proof.Claims Sys2Proof.Link Sys2Proof.Invariants Sys2Proof.NoteQueue
  Sys2Proof.Cycles Sys2Proof.Plans

/-! ### Power-on begins (R18, R98, R140, R172) -/

theorem beginPowerOn_eq (c : Conditions) (s : State) : beginPowerOn c s = poweringOnFrom c s := by
  unfold beginPowerOn poweringOnFrom
  split <;> rfl

theorem exec_powerOn_resetLow {n : Nat} (h : 2 ≤ n) (s : State) :
    exec (.powerOn (.resetLow n)) s =
      .next (beginPowerOn { s.conditions with resetHigh := false, highSamples := 0, elapsed := 0 } s) :=
  congrArg Host.Outcome.next (if_pos h)

theorem changeConditions_of_running {s : State} (h : s.power = .running) (c : Conditions) :
    changeConditions c s = s := by unfold changeConditions; rw [h]

theorem changeConditions_of_poweringOn {s : State} (h : s.power = .poweringOn) (c : Conditions) :
    changeConditions c s = { s with conditions := c } := by unfold changeConditions; rw [h]

theorem changeConditions_self (s : State) : changeConditions s.conditions s = s := by
  cases h : s.power with
  | running => exact changeConditions_of_running h _
  | poweringOn => exact changeConditions_of_poweringOn h _

/-- A low of one tick after the two high samples is not seen. -/
theorem glitch_of_sampled {c : Conditions} (h : 2 ≤ c.highSamples) : c.glitch = c := if_neg (Nat.not_lt.2 h)

/-- A low of one tick before the two high samples breaks the sampling off. -/
theorem glitch_of_sampling {c : Conditions} (h : c.highSamples < 2) : c.glitch = { c with highSamples := 0 } := if_pos h

/-- Settles O3, by the cause. -/
theorem powerOnBegins : Obligations.PowerOnBegins := by
  intro s
  refine ⟨congrArg Host.Outcome.next (beginPowerOn_eq _ s), congrArg Host.Outcome.next (beginPowerOn_eq _ s),
    fun n hn => ?_, fun hunseen => ?_, fun hrun e he => ?_, fun hp => ⟨fun hlow => ?_, ?_, ?_, ?_⟩⟩
  · rw [exec_powerOn_resetLow hn, beginPowerOn_eq]
  · refine congrArg Host.Outcome.next (?_ : changeConditions s.conditions.glitch s = s)
    rcases hunseen with hrun | hsampled
    · exact changeConditions_of_running hrun _
    · rw [glitch_of_sampled hsampled, changeConditions_self]
  · simp only [List.mem_cons, List.not_mem_nil, or_false] at he
    rcases he with rfl | rfl | rfl <;> exact congrArg Host.Outcome.next (changeConditions_of_running hrun _)
  · rw [← glitch_of_sampling hlow]
    exact congrArg Host.Outcome.next (changeConditions_of_poweringOn hp _)
  all_goals exact congrArg Host.Outcome.next (changeConditions_of_poweringOn hp _)

/-! ### The ticks of power-on (R172) -/

theorem good_iff (c : Conditions) : c.good = true ↔ c.supplies = true ∧ c.refclk = true ∧ 2 ≤ c.highSamples := by
  simp [Conditions.good, and_assoc]

theorem exec_tick_of_poweringOn {s : State} (h : s.power = .poweringOn) :
    exec .tick s = .next { s with conditions := s.conditions.tick } := by
  show execTick s = _
  unfold execTick
  rw [h]

theorem conditions_tick_of_stopped {c : Conditions} (h : c.refclk = false) : c.tick = c := by
  simp [Conditions.tick, h]

theorem conditions_tick_of_good {c : Conditions} (h : c.good = true) :
    c.tick = { c with elapsed := if c.elapsed < 4096 then c.elapsed + 1 else 4096 } := by
  have hclk : c.refclk = true := ((good_iff c).1 h).2.1
  have hmin : min 4096 (c.elapsed + 1) = if c.elapsed < 4096 then c.elapsed + 1 else 4096 := by split <;> omega
  simp [Conditions.tick, hclk, h, hmin]

theorem conditions_tick_of_sampling {c : Conditions} (hclk : c.refclk = true) (h : ¬ c.good = true) :
    c.tick =
      { c with
        highSamples := if c.resetHigh = false then 0 else if c.highSamples < 2 then c.highSamples + 1 else 2
        elapsed := 0 } := by
  have hmin : min 2 (c.highSamples + 1) = if c.highSamples < 2 then c.highSamples + 1 else 2 := by split <;> omega
  cases hr : c.resetHigh <;> simp [Conditions.tick, hclk, h, hr, hmin]

/-! ### The part with its power-on values (R142, R158, R163) -/

/-- The transmission that has begun on port U: that of the STARTED note, where the line came UP and the part is
addressed. -/
def firstTransmission (straps : NodeAddr) : Link → Option (Transmission SourceU)
  | .down => none
  | .up =>
    if straps = 0 ∨ straps = 127 then none
    else some { source := .note, bytes := startedFrame straps, remaining := 60 }

/-- The note unit with the STARTED record, sent if port U came UP, and the records of `changes` behind it; of an
unaddressed part, nothing. -/
def firstNotes (straps : NodeAddr) (linkU : Link) (changes : List Occurrence) : Notes :=
  if straps = 0 ∨ straps = 127 then {} else
    match linkU with
    | .down => { queue := (.started .powerOn :: changes).map (newRecord · 0) }
    | .up =>
      { queue :=
          { newRecord (.started .powerOn) 0 with seq := some 0, attempts := 1, state := .sending } ::
            changes.map (newRecord · 0)
        nextSeq := 1
        counters := { notesSent := 1 } }

/-- The part with its power-on values and the commands `pending`, its lines as given, after the link changes
`changes`. -/
def poweredOn (straps : NodeAddr) (pending : List Instr) (linkU linkD : Link) (changes : List Occurrence) : State :=
  { nodeAddr := straps
    cyc := true
    portU := portAfterPowerOn linkU
    portD := portAfterPowerOn linkD
    txU := firstTransmission straps linkU
    notes := firstNotes straps linkU changes
    pending := pending }

/-- The part with its line on port U just UP, before port U's arbiter decides. -/
def upUnsent (straps : NodeAddr) (pending : List Instr) (linkD : Link) (changes : List Occurrence) : State :=
  { poweredOn straps pending .down linkD changes with portU := portAfterPowerOn .up }

theorem blocksAtPowerOn_poweredOn (straps : NodeAddr) (pending : List Instr) (linkU linkD : Link)
    (changes : List Occurrence) : BlocksAtPowerOn (poweredOn straps pending linkU linkD changes) where
  running := rfl
  conditions := rfl
  cyc := rfl
  win := rfl
  areas := ⟨rfl, rfl⟩
  pool := rfl
  stores := rfl
  streams := rfl
  timer := rfl
  sync := rfl
  engine := rfl
  plan := rfl
  mgmt := rfl

section Addresses

variable {straps : NodeAddr}

theorem firstTransmission_of_unaddressed (h : straps = 0 ∨ straps = 127) (l : Link) :
    firstTransmission straps l = none := by
  cases l with
  | down => rfl
  | up => exact if_pos h

theorem firstNotes_of_unaddressed (h : straps = 0 ∨ straps = 127) (l : Link) (changes : List Occurrence) :
    firstNotes straps l changes = {} := if_pos h

theorem firstTransmission_up (h : ¬ (straps = 0 ∨ straps = 127)) :
    firstTransmission straps .up = some { source := .note, bytes := startedFrame straps, remaining := 60 } := if_neg h

theorem firstNotes_down (h : ¬ (straps = 0 ∨ straps = 127)) (changes : List Occurrence) :
    firstNotes straps .down changes = { queue := (.started .powerOn :: changes).map (newRecord · 0) } := if_neg h

theorem firstNotes_up (h : ¬ (straps = 0 ∨ straps = 127)) (changes : List Occurrence) :
    firstNotes straps .up changes =
      { queue :=
          { newRecord (.started .powerOn) 0 with seq := some 0, attempts := 1, state := .sending } ::
            changes.map (newRecord · 0)
        nextSeq := 1
        counters := { notesSent := 1 } } := if_neg h

end Addresses

theorem powerOnValues_eq (straps : NodeAddr) (s : State) :
    powerOnValues straps s = poweredOn straps s.pending .down .down [] := by
  have hnotes : ({ queue := startedQueue (straps != 0 && straps != broadcastAddr) .powerOn } : Notes) =
      firstNotes straps .down [] := by
    by_cases h : straps = 0 ∨ straps = 127
    · rw [firstNotes_of_unaddressed h]
      rcases h with rfl | rfl <;> rfl
    · rw [firstNotes_down h]
      have haddr : (straps != 0 && straps != broadcastAddr) = true := by simpa [broadcastAddr] using h
      rw [haddr]
      rfl
  unfold powerOnValues
  rw [hnotes]
  rfl

/-! ### The records of the first link changes (R15, R153) -/

/-- The LINK_CHANGE occurrence of a first report, which is a change if the line is UP. -/
def firstChange (p : Port) (l : Link) : List Occurrence := if l = .up then [.linkChange p .up] else []

theorem firstChange_down (p : Port) : firstChange p .down = [] := rfl

theorem firstChange_length (p : Port) (l : Link) : (firstChange p l).length < 15 := by
  unfold firstChange
  split <;> simp

theorem firstNotes_mask (straps : NodeAddr) (linkU : Link) (changes : List Occurrence) :
    (firstNotes straps linkU changes).mask = 0xFFF := by
  by_cases h : straps = 0 ∨ straps = 127
  · rw [firstNotes_of_unaddressed h]
  · cases linkU with
    | down => rw [firstNotes_down h]
    | up => rw [firstNotes_up h]

theorem appendOrLose_firstNotes {straps : NodeAddr} (h : ¬ (straps = 0 ∨ straps = 127)) (linkU : Link) (p : Port)
    {changes : List Occurrence} (hroom : changes.length < 15) :
    appendOrLose (.linkChange p .up) 0 (firstNotes straps linkU changes) =
      firstNotes straps linkU (changes ++ firstChange p .up) := by
  have hlen : (firstNotes straps linkU changes).queue.length < Config.noteCapacity := by
    show _ < 16
    cases linkU with
    | down => rw [firstNotes_down h, List.length_map, List.length_cons]; omega
    | up => rw [firstNotes_up h, List.length_cons, List.length_map]; omega
  unfold appendOrLose
  rw [if_pos hlen]
  cases linkU with
  | down => rw [firstNotes_down h, firstNotes_down h, ← List.cons_append, List.map_append]; rfl
  | up => rw [firstNotes_up h, firstNotes_up h, List.map_append]; rfl

/-- A LINK_CHANGE folds into no record, and the queue of a part just powered on has room for it. -/
theorem report_firstNotes {straps : NodeAddr} {linkU : Link} {changes : List Occurrence} {s : State} (p : Port)
    (haddr : s.nodeAddr = straps) (hcycle : s.timer.cycle = 0) (hnotes : s.notes = firstNotes straps linkU changes)
    (hroom : changes.length < 15) :
    report (.linkChange p .up) s =
      { s with notes := firstNotes straps linkU (changes ++ firstChange p .up) } := by
  by_cases h : straps = 0 ∨ straps = 127
  · have hno : ¬ HasAddress s := by unfold HasAddress; rw [haddr]; tauto
    rw [report_of_traceless (.inl hno), firstNotes_of_unaddressed h, ← firstNotes_of_unaddressed h linkU changes,
      ← hnotes]
  · have hyes : HasAddress s := by unfold HasAddress; rw [haddr]; tauto
    have henabled : s.notes.mask.getLsbD ((Occurrence.linkChange p .up).kind - 1) = true := by
      show s.notes.mask.getLsbD 8 = true
      rw [hnotes, firstNotes_mask]; decide
    rw [report_of_recorded hyes (.inr henabled), recordOccurrence_of_no_fold _ (fun hc => by cases hc), hcycle, hnotes,
      appendOrLose_firstNotes h linkU p hroom]

/-- What the note unit offers does not depend on the records behind STARTED. -/
theorem noteOffered_firstNotes (straps : NodeAddr) (linkU : Link) (changes changes' : List Occurrence) :
    noteOffered (firstNotes straps linkU changes) = noteOffered (firstNotes straps linkU changes') := by
  by_cases h : straps = 0 ∨ straps = 127
  · rw [firstNotes_of_unaddressed h, firstNotes_of_unaddressed h]
  · cases linkU with
    | down => rw [firstNotes_down h, firstNotes_down h]; rfl
    | up => rw [firstNotes_up h, firstNotes_up h]; rfl

/-! ### The STARTED note (R14, R146, R158) -/

theorem noteBytes_started (straps : NodeAddr) :
    noteBytes straps (noteSent {} (newRecord (.started .powerOn) 0)) = startedFrame straps := rfl

theorem begun_startedFrame (straps : NodeAddr) :
    begun .note (startedFrame straps) =
      some { source := SourceU.note, bytes := startedFrame straps, remaining := 60 } := by
  have hlen : lenOf (startedFrame straps) = 7 := rfl
  rw [begun, hlen]

/-! ### The first reports of the lines (R15, R32, R100) -/

theorem linkReport_of_same {p : Port} {l : Link} {s : State} (h : (s.port p).link = l) : linkReport p l s = s :=
  if_pos h

theorem linkReport_up {p : Port} {s : State} (h : (s.port p).link = .down) :
    linkReport p .up s = conclude s (lineChanged p .up s) := by
  unfold linkReport
  rw [if_neg (by rw [h]; decide), changeLink_eq]

/-- Records appended behind the head offer nothing new to port U's arbiter (R157). -/
theorem invokesU_of_offered_eq {before after : State} (htx : after.txU = before.txU)
    (hlink : after.portU.link = before.portU.link) (hback : after.stores.back = before.stores.back)
    (houtbox : after.mgmt.outbox = before.mgmt.outbox)
    (hoffer : noteOffered after.notes = noteOffered before.notes) : invokesU before after = false := by
  have hnote : noteAppears before after = false := by
    unfold noteAppears
    rw [hoffer]
    cases noteOffered before.notes <;> simp
  simp only [invokesU, htx, hlink, hback, houtbox, hnote, Bool.and_not_self]
  cases before.txU <;> cases before.portU.link <;> rfl

/-- Port U's arbiter finds the STARTED record, and sends it at once. -/
theorem arbiterU_upUnsent (straps : NodeAddr) (pending : List Instr) (linkD : Link) (changes : List Occurrence) :
    arbiterU (upUnsent straps pending linkD changes) =
      poweredOn straps pending .up linkD changes := by
  rw [arbiterU_of_no_back rfl rfl rfl]
  have houtbox : (upUnsent straps pending linkD changes).mgmt.outbox = [] := rfl
  by_cases h : straps = 0 ∨ straps = 127
  · unfold grantPart
    rw [houtbox]
    unfold upUnsent poweredOn
    rw [firstNotes_of_unaddressed h, firstNotes_of_unaddressed h, firstTransmission_of_unaddressed h,
      firstTransmission_of_unaddressed h]
    rfl
  · have hq : (upUnsent straps pending linkD changes).notes.queue =
        newRecord (.started .powerOn) 0 :: changes.map (newRecord · 0) :=
      congrArg Notes.queue (firstNotes_down h changes)
    have hgrant : grantPart (upUnsent straps pending linkD changes) =
        grantNote (newRecord (.started .powerOn) 0) (upUnsent straps pending linkD changes) := by
      unfold grantPart
      rw [houtbox, noteOffered_of_waiting hq rfl]
    rw [hgrant, grantNote_eq hq]
    unfold upUnsent poweredOn
    rw [firstNotes_down h, firstNotes_up h, firstTransmission_up h, ← begun_startedFrame, ← noteBytes_started]
    rfl

section Reports

variable {changes : List Occurrence} (straps : NodeAddr) (pending : List Instr) (linkU linkD : Link)
  (hroom : changes.length < 15)
include hroom

/-- Port D comes UP: its arbiter decides and finds nothing to send. -/
theorem linkReport_d_poweredOn (l : Link) :
    linkReport .d l (poweredOn straps pending linkU .down changes) =
      poweredOn straps pending linkU l (changes ++ firstChange .d l) := by
  cases l with
  | down => rw [firstChange_down, List.append_nil]; exact linkReport_of_same rfl
  | up =>
    have hchanged : lineChanged .d .up (poweredOn straps pending linkU .down changes) =
        poweredOn straps pending linkU .up (changes ++ firstChange .d .up) :=
      report_firstNotes .d rfl rfl rfl hroom
    have hD : arbiterD (poweredOn straps pending linkU .up (changes ++ firstChange .d .up)) =
        poweredOn straps pending linkU .up (changes ++ firstChange .d .up) := arbiterD_of_no_candidate rfl rfl rfl
    have hU : invokesU (poweredOn straps pending linkU .down changes)
        (poweredOn straps pending linkU .up (changes ++ firstChange .d .up)) = false :=
      invokesU_of_offered_eq rfl rfl rfl rfl (noteOffered_firstNotes straps linkU _ _)
    rw [linkReport_up rfl, hchanged]
    unfold conclude
    rw [hD, hU, ite_self]
    rfl

/-- Port U comes UP: its arbiter decides. -/
theorem linkReport_u_poweredOn (l : Link) :
    linkReport .u l (poweredOn straps pending .down linkD changes) =
      poweredOn straps pending l linkD (changes ++ firstChange .u l) := by
  cases l with
  | down => rw [firstChange_down, List.append_nil]; exact linkReport_of_same rfl
  | up =>
    have hchanged : lineChanged .u .up (poweredOn straps pending .down linkD changes) =
        upUnsent straps pending linkD (changes ++ firstChange .u .up) :=
      report_firstNotes (straps := straps) (linkU := .down) (s := upUnsent straps pending linkD changes)
        .u rfl rfl rfl hroom
    have hD : invokesD (poweredOn straps pending .down linkD changes)
        (upUnsent straps pending linkD (changes ++ firstChange .u .up)) = false := invokesD_of_view_eq rfl
    have hU : invokesU (poweredOn straps pending .down linkD changes)
        (upUnsent straps pending linkD (changes ++ firstChange .u .up)) = true := by
      simp [invokesU, upUnsent, poweredOn, portAfterPowerOn]
    rw [linkReport_up rfl, hchanged]
    unfold conclude
    rw [hD, hU, if_neg Bool.false_ne_true, if_pos rfl, arbiterU_upUnsent]

end Reports

theorem firstReports_powerOnValues (straps : NodeAddr) (linkU linkD : Link) (dFirst : Bool) (s : State) :
    firstReports linkU linkD dFirst (powerOnValues straps s) =
      poweredOn straps s.pending linkU linkD (firstChanges linkU linkD dFirst) := by
  rw [powerOnValues_eq]
  cases dFirst with
  | true =>
    show linkReport .u linkU (linkReport .d linkD _) = _
    rw [linkReport_d_poweredOn _ _ _ (by simp), List.nil_append,
      linkReport_u_poweredOn _ _ _ (firstChange_length .d linkD)]
    rfl
  | false =>
    show linkReport .d linkD (linkReport .u linkU _) = _
    rw [linkReport_u_poweredOn _ _ _ (by simp), List.nil_append,
      linkReport_d_poweredOn _ _ _ (firstChange_length .u linkU)]
    rfl

/-! ### Power-on completes (R172) -/

theorem powerOnDue_iff (s : State) :
    powerOnDue s = true ↔ s.power = .poweringOn ∧ s.conditions.good = true ∧ s.conditions.elapsed = 4096 := by
  simp [powerOnDue, and_assoc]

section Complete

variable {s : State} {n : Nat} (straps : NodeAddr) (linkU linkD : Link) (dFirst : Bool)

theorem exec_powerOnComplete_of_due (hdue : powerOnDue s = true) (hn : n = s.conditions.elapsed) :
    exec (.powerOnComplete n straps linkU linkD dFirst) s =
      .next (poweredOn straps s.pending linkU linkD (firstChanges linkU linkD dFirst)) := by
  rw [← firstReports_powerOnValues]
  exact congrArg Host.Outcome.next (if_pos (by simp [hdue, hn]))

theorem exec_powerOnComplete_of_not_due (h : ¬ (powerOnDue s = true ∧ n = s.conditions.elapsed)) :
    exec (.powerOnComplete n straps linkU linkD dFirst) s = .next s :=
  congrArg Host.Outcome.next (if_neg (by simpa using h))

end Complete

/-- Settles O4: the ticks by the conditions, the completion by the address and port U's line. -/
theorem powerOnCompletes : Obligations.PowerOnCompletes := by
  intro s n straps linkU linkD dFirst
  refine ⟨fun hp => ⟨fun hstopped => ?_, fun hgood => ?_, fun hclk hbad => ?_⟩, fun hearly => ?_,
    fun hp hgood helapsed hn => ?_⟩
  · rw [exec_tick_of_poweringOn hp, conditions_tick_of_stopped hstopped]
  · rw [exec_tick_of_poweringOn hp, conditions_tick_of_good ((good_iff _).2 hgood)]
  · rw [exec_tick_of_poweringOn hp, conditions_tick_of_sampling hclk fun hg => hbad ((good_iff _).1 hg)]
  · refine exec_powerOnComplete_of_not_due straps linkU linkD dFirst ?_
    rintro ⟨hdue, hn⟩
    obtain ⟨hp, hgood, helapsed⟩ := (powerOnDue_iff s).1 hdue
    rcases hearly with hrun | hbad | hcount | hother
    · exact absurd (hrun.symm.trans hp) (by decide)
    · exact hbad ((good_iff _).1 hgood)
    · exact hcount helapsed
    · exact hother (hn.trans helapsed)
  · have hdue : powerOnDue s = true := (powerOnDue_iff s).2 ⟨hp, (good_iff _).2 hgood, helapsed⟩
    refine ⟨_, exec_powerOnComplete_of_due straps linkU linkD dFirst hdue (hn.trans helapsed.symm),
      blocksAtPowerOn_poweredOn _ _ _ _ _, rfl, rfl, rfl, rfl, rfl, fun hnone => ?_, fun h0 h127 hl => ?_,
      fun h0 h127 hl => ?_⟩
    · exact ⟨firstTransmission_of_unaddressed hnone linkU, firstNotes_of_unaddressed hnone linkU _⟩
    · subst hl
      exact ⟨rfl, firstNotes_down (not_or.2 ⟨h0, h127⟩) _⟩
    · subst hl
      exact ⟨firstTransmission_up (not_or.2 ⟨h0, h127⟩), firstNotes_up (not_or.2 ⟨h0, h127⟩) _⟩

/-! ### Reset (R172) -/

/-- Reset is the moment power-on has completed with straps that read 5, before the first link reports. -/
theorem reset_eq : State.reset = powerOnValues 5 State.reset := rfl

theorem blocksAtPowerOn_reset : BlocksAtPowerOn State.reset := by
  rw [reset_eq, powerOnValues_eq]
  exact blocksAtPowerOn_poweredOn _ _ _ _ _

/-- An invariant that power-on establishes holds at reset. -/
theorem lifts_reset {I P : State → Prop} (h : Lifts I P) : P State.reset := (h.running rfl).2 (h.values 5 State.reset)

theorem lengthLaws_reset : LengthLaws State.reset := by
  obtain ⟨hplans, hranges, hlaw⟩ := lifts_reset lengthCore_lift
  obtain ⟨hoffset, hwrapping⟩ := offsetBounded_initial
  exact ⟨hplans, hranges, hlaw, hoffset, hwrapping⟩

/-- Settles O2: the values are those of power-on, which establishes every invariant. -/
theorem resetHoldsPowerOnValues : Obligations.ResetHoldsPowerOnValues :=
  ⟨blocksAtPowerOn_reset, rfl, rfl, rfl, rfl, rfl, lifts_reset capacities_lift, lifts_reset streamTable_lift,
    lifts_reset planLaws_lift, lifts_reset noteLaws_lift, lengthLaws_reset, lifts_reset poolLaws_lift,
    lifts_reset noCandidateIdle_lift⟩

end Sys2Proof.PoweringUp
end

section
/-! PROOF. What a step does with the queue of commands, and the settling of the obligation on it. -/

namespace Sys2Proof.Queue

open Sys2Proof.Machine

/-- The front command runs on the state that keeps the queue's rest. -/
theorem step_of_pending_cons {s : State} {c : Instr} {rest : List Instr} (hp : s.pending = c :: rest) :
    step s = exec c { s with pending := rest } := by
  unfold step
  rw [hp]

/-- With no command the part idles: the model's choice (log entry 5). -/
theorem step_of_pending_nil {s : State} (hp : s.pending = []) : step s = .next s := by
  unfold step
  rw [hp]

/-- Settles O1: the two cases of the queue, a command at the front and none. -/
theorem stepTakesTheFrontCommand : Obligations.StepTakesTheFrontCommand :=
  ⟨fun _ _ _ => step_of_pending_cons, fun _ => step_of_pending_nil⟩

end Sys2Proof.Queue
end
